-- ==== Sys2Proof/Word.lean ====
section
/-! DEFINITION. The two word types of the machine (00_scope.md R6: the addressable unit is the
8-bit byte, addresses are 16 bits wide) and nothing else. -/

namespace Sys2Proof

/-- The 8-bit addressable unit; also the width of a general-purpose register (R6). -/
abbrev Byte := BitVec 8

/-- A 16-bit address, register pair, PC or SP (R6). -/
abbrev Word := BitVec 16

end Sys2Proof
end

