-- ==== Sys2Proof/Config.lean ====
section
/-! DEFINITION. What an implementation fixes (the `Product` record of 00_scope.md R7) and the free
values `draw(n)` of 00_scope.md R11. -/

namespace Sys2Proof

/-- `draw(1)` of 00_scope.md R11: an open bit, a fresh one for each value of the counter
`State.draws`. DESIGN CHOICE, safe (log 14): nothing can be proved of its value. -/
opaque Config.drawBit : Nat → Bool

/-- `draw(8)` of 00_scope.md R11: an open byte, a fresh one for each value of the counter
`State.draws`. DESIGN CHOICE, safe (log 8, log 14): nothing can be proved of its value. -/
opaque Config.drawByte : Nat → Byte

/-- What an EEPROM byte holds that no image loaded from outside lists (10_state.md R39: what was last
programmed): an open byte for each address, the same at every read. DESIGN CHOICE, safe (log 33):
nothing can be proved of its value. -/
opaque Config.eepromByte : Nat → Byte

/-- What a storage SFR holds that nothing has written since RESET (10_state.md R39,
70_reset_and_hazards.md R370: the platform's; 00_scope.md R14: unwritten): an open byte for each
address, the same at every read until it is written. DESIGN CHOICE (log 34): nothing can be proved of its value. -/
opaque Config.sfrByte : Nat → Byte

/-- The parameter `EEPROM` (20_memory.md R66). -/
inductive Eeprom where
  /-- no EEPROM in the product -/
  | absent
  /-- F800H to F87FH -/
  | bytes128
  /-- F800H to F8FFH -/
  | bytes256
deriving DecidableEq, Repr

/-- The parameter `PSW_FIXED` (10_state.md R27, decision D2). -/
inductive PswFixed where
  /-- bits 5, 3, 2 read 0 and bit 1 reads 1, whatever was written -/
  | hardwired
  /-- each of the four bits reads `draw(1)` after the first byte write to PSW -/
  | open_
deriving DecidableEq, Repr

/-- The behaviour of one register of the parameter `SFR_MAP` (20_memory.md R68, decision D8). -/
inductive SfrKind where
  /-- a plain storage byte: a read returns the last byte written, no side effects (R14) -/
  | storage
  /-- a register of a peripheral: a read returns `draw(8)`, a write goes to the output trace -/
  | device
deriving DecidableEq, Repr

/-- One address of the parameter `SFR_MAP` (20_memory.md R68; 93_implementation_defined.md U14):
its access units, its directions and its behaviour. -/
structure SfrEntry where
  /-- the address, FF00H to FFFFH less FF1CH to FF1EH -/
  addr : Word
  /-- 1-bit manipulation is allowed -/
  bit1 : Bool
  /-- 8-bit manipulation is allowed -/
  bit8 : Bool
  /-- this byte is half of a register that allows 16-bit manipulation -/
  bit16 : Bool
  readable : Bool
  writable : Bool
  kind : SfrKind
deriving DecidableEq, Repr

/-- One row of the parameter `VECTORS` (60_exceptions.md R343). -/
structure VectorEntry where
  /-- the vector table address -/
  addr : Word
  /-- the name the source prints for the request -/
  request : String
deriving DecidableEq, Repr

/-- The `Product` record of 00_scope.md R7, less `INT_CTRL`, whose state and script are fields of
`State` (10_state.md R36). -/
structure Product where
  /-- last address of internal ROM (R63) -/
  romTop : Word
  /-- first address of internal high-speed RAM (R64) -/
  ramBase : Word
  /-- LCD display RAM present (R65) -/
  lcdRam : Bool
  /-- EEPROM (R66) -/
  eeprom : Eeprom
  /-- the vector table (R343) -/
  vectors : List VectorEntry
  /-- the special function registers (R68) -/
  sfrMap : List SfrEntry
  /-- PSW bits 5, 3, 2, 1 (R27) -/
  pswFixed : PswFixed
  /-- whether the PC may address internal high-speed RAM (D18) -/
  fetchFromRam : Bool
deriving DecidableEq, Repr

end Sys2Proof
end

