-- ==== Sys2Proof/Machine/Parts.lean ====
section
/-! DEFINITION. The per-product tables of the source: vector tables (60_exceptions.md R343), ROM
sizes (20_memory.md R63), RAM, LCD RAM and EEPROM (R64 to R66), and the test configuration
(00_scope.md R14). -/

namespace Sys2Proof.Machine

/-- The subseries of 00_scope.md R1. -/
inductive Subseries where
  | upd789014 | upd789026 | upd789046 | upd789104 | upd789114 | upd789124 | upd789134
  | upd789146 | upd789156 | upd789167 | upd789177 | upd789197AY | upd789217AY
  | upd789407A | upd789417A | upd789800 | upd789842
deriving DecidableEq, Repr

/-- The products of 00_scope.md R1. -/
inductive Part where
  | p789011 | p789012 | p78P9014
  | p789022 | p789024 | p789025 | p789026 | p78F9026
  | p789046 | p78F9046
  | p789101 | p789102 | p789104
  | p789111 | p789112 | p789114 | p78F9116
  | p789121 | p789122 | p789124
  | p789131 | p789132 | p789134 | p78F9136
  | p789144 | p789146
  | p789154 | p789156 | p78F9156
  | p789166 | p789167
  | p789176 | p789177 | p78F9177
  | p789196AY | p789197AY | p78F9197AY
  | p789216AY | p789217AY | p78F9217AY
  | p789405A | p789406A | p789407A
  | p789415A | p789416A | p789417A | p78F9418A
  | p789800 | p78F9801
  | p789841 | p789842 | p78F9842
deriving DecidableEq, Repr

/-- Which subseries a product belongs to (R1, R63). -/
def Part.subseries : Part → Subseries
  | .p789011 | .p789012 | .p78P9014 => .upd789014
  | .p789022 | .p789024 | .p789025 | .p789026 | .p78F9026 => .upd789026
  | .p789046 | .p78F9046 => .upd789046
  | .p789101 | .p789102 | .p789104 => .upd789104
  | .p789111 | .p789112 | .p789114 | .p78F9116 => .upd789114
  | .p789121 | .p789122 | .p789124 => .upd789124
  | .p789131 | .p789132 | .p789134 | .p78F9136 => .upd789134
  | .p789144 | .p789146 => .upd789146
  | .p789154 | .p789156 | .p78F9156 => .upd789156
  | .p789166 | .p789167 => .upd789167
  | .p789176 | .p789177 | .p78F9177 => .upd789177
  | .p789196AY | .p789197AY | .p78F9197AY => .upd789197AY
  | .p789216AY | .p789217AY | .p78F9217AY => .upd789217AY
  | .p789405A | .p789406A | .p789407A => .upd789407A
  | .p789415A | .p789416A | .p789417A | .p78F9418A => .upd789417A
  | .p789800 | .p78F9801 => .upd789800
  | .p789841 | .p789842 | .p78F9842 => .upd789842

/-- `ROM_TOP` of a product (R62, R63, Table 1-1). -/
def Part.romTop : Part → Word
  | .p789011 | .p789101 | .p789111 | .p789121 | .p789131 => 0x07FF#16
  | .p789012 | .p789022 | .p789102 | .p789112 | .p789122 | .p789132 => 0x0FFF#16
  | .p78P9014 | .p789024 | .p789104 | .p789114 | .p789124 | .p789134
  | .p789144 | .p789154 | .p789800 | .p789841 => 0x1FFF#16
  | .p789025 | .p789405A | .p789415A => 0x2FFF#16
  | .p789026 | .p78F9026 | .p789046 | .p78F9046 | .p78F9116 | .p78F9136
  | .p789146 | .p789156 | .p78F9156 | .p789166 | .p789176 | .p789196AY | .p789216AY
  | .p789406A | .p789416A | .p78F9801 | .p789842 | .p78F9842 => 0x3FFF#16
  | .p789167 | .p789177 | .p78F9177 | .p789197AY | .p78F9197AY | .p789217AY | .p78F9217AY
  | .p789407A | .p789417A => 0x5FFF#16
  | .p78F9418A => 0x7FFF#16

/-- `RAM_BASE` of a product (R64, Table 1-12). -/
def Part.ramBase : Part → Word
  | .p789011 | .p789012 => 0xFE80#16
  | .p78P9014 | .p789022 | .p789024
  | .p789101 | .p789102 | .p789104
  | .p789111 | .p789112 | .p789114 | .p78F9116
  | .p789121 | .p789122 | .p789124
  | .p789131 | .p789132 | .p789134 | .p78F9136
  | .p789144 | .p789146
  | .p789154 | .p789156 | .p78F9156
  | .p789800 | .p78F9801
  | .p789841 | .p789842 | .p78F9842 => 0xFE00#16
  | .p789025 | .p789026 | .p78F9026
  | .p789046 | .p78F9046
  | .p789166 | .p789167
  | .p789176 | .p789177 | .p78F9177
  | .p789196AY | .p789197AY | .p78F9197AY
  | .p789216AY | .p789217AY | .p78F9217AY
  | .p789405A | .p789406A | .p789407A
  | .p789415A | .p789416A | .p789417A | .p78F9418A => 0xFD00#16

/-- LCD display RAM: the two LCD subseries only (R65). -/
def Subseries.lcdRam : Subseries → Bool
  | .upd789407A | .upd789417A => true
  | .upd789014 | .upd789026 | .upd789046 | .upd789104 | .upd789114 | .upd789124 | .upd789134
  | .upd789146 | .upd789156 | .upd789167 | .upd789177 | .upd789197AY | .upd789217AY
  | .upd789800 | .upd789842 => false

/-- EEPROM: four subseries only (R66). -/
def Subseries.eeprom : Subseries → Eeprom
  | .upd789146 | .upd789156 => .bytes256
  | .upd789197AY | .upd789217AY => .bytes128
  | .upd789014 | .upd789026 | .upd789046 | .upd789104 | .upd789114 | .upd789124 | .upd789134
  | .upd789167 | .upd789177 | .upd789407A | .upd789417A | .upd789800 | .upd789842 => .absent

/-- The vector table of a subseries (R343, Tables 1-2 to 1-11). -/
def Subseries.vectors : Subseries → List VectorEntry
  -- Table 1-2
  | .upd789014 =>
    [⟨0x0000#16, "RESET input"⟩, ⟨0x0004#16, "INTWDT"⟩, ⟨0x0006#16, "INTP0"⟩,
     ⟨0x0008#16, "INTP1"⟩, ⟨0x000A#16, "INTP2"⟩, ⟨0x000C#16, "INTSR/INTCSI0"⟩,
     ⟨0x000E#16, "INTST"⟩, ⟨0x0010#16, "INTTM0"⟩, ⟨0x0012#16, "INTTM1"⟩]
  -- Table 1-3
  | .upd789026 =>
    [⟨0x0000#16, "RESET input"⟩, ⟨0x0004#16, "INTWDT"⟩, ⟨0x0006#16, "INTP0"⟩,
     ⟨0x0008#16, "INTP1"⟩, ⟨0x000A#16, "INTP2"⟩, ⟨0x000C#16, "INTSR/INTCSI0"⟩,
     ⟨0x000E#16, "INTST"⟩, ⟨0x0010#16, "INTTM0"⟩, ⟨0x0014#16, "INTTM2"⟩,
     ⟨0x002A#16, "INTKR"⟩]
  -- Table 1-4
  | .upd789046 =>
    [⟨0x0000#16, "RESET input"⟩, ⟨0x0004#16, "INTWDT"⟩, ⟨0x0006#16, "INTP0"⟩,
     ⟨0x0008#16, "INTP1"⟩, ⟨0x000A#16, "INTP2"⟩, ⟨0x000C#16, "INTSR20/INTCSI20"⟩,
     ⟨0x000E#16, "INTST20"⟩, ⟨0x0010#16, "INTWT"⟩, ⟨0x0012#16, "INTWTI"⟩,
     ⟨0x0014#16, "INTTM80"⟩, ⟨0x0016#16, "INTTM90"⟩, ⟨0x0018#16, "INTKR00"⟩]
  -- Table 1-5
  | .upd789104 | .upd789114 | .upd789124 | .upd789134 =>
    [⟨0x0000#16, "RESET input"⟩, ⟨0x0004#16, "INTWDT"⟩, ⟨0x0006#16, "INTP0"⟩,
     ⟨0x0008#16, "INTP1"⟩, ⟨0x000A#16, "INTP2"⟩, ⟨0x000C#16, "INTSR20/INTCSI20"⟩,
     ⟨0x000E#16, "INTST20"⟩, ⟨0x0010#16, "INTTM80"⟩, ⟨0x0012#16, "INTTM20"⟩,
     ⟨0x0014#16, "INTAD0"⟩]
  -- Table 1-6
  | .upd789146 | .upd789156 =>
    [⟨0x0000#16, "RESET input"⟩, ⟨0x0004#16, "INTWDT"⟩, ⟨0x0006#16, "INTP0"⟩,
     ⟨0x0008#16, "INTP1"⟩, ⟨0x000A#16, "INTP2"⟩, ⟨0x000C#16, "INTSR20/INTCSI20"⟩,
     ⟨0x000E#16, "INTST20"⟩, ⟨0x0010#16, "INTTM80"⟩, ⟨0x0012#16, "INTTM20"⟩,
     ⟨0x0014#16, "INTAD0"⟩, ⟨0x0016#16, "INTLVI0"⟩, ⟨0x0018#16, "INTEE1"⟩]
  -- Table 1-7
  | .upd789167 | .upd789177 =>
    [⟨0x0000#16, "RESET input"⟩, ⟨0x0004#16, "INTWDT"⟩, ⟨0x0006#16, "INTP0"⟩,
     ⟨0x0008#16, "INTP1"⟩, ⟨0x000A#16, "INTP2"⟩, ⟨0x000C#16, "INTP3"⟩,
     ⟨0x000E#16, "INTSR20/INTCSI20"⟩, ⟨0x0010#16, "INTST20"⟩, ⟨0x0012#16, "INTWT"⟩,
     ⟨0x0014#16, "INTWTI"⟩, ⟨0x0016#16, "INTTM80"⟩, ⟨0x0018#16, "INTTM81"⟩,
     ⟨0x001A#16, "INTTM82"⟩, ⟨0x001C#16, "INTTM90"⟩, ⟨0x0022#16, "INTAD0"⟩]
  -- Table 1-8
  | .upd789197AY | .upd789217AY =>
    [⟨0x0000#16, "RESET input"⟩, ⟨0x0004#16, "INTWDT"⟩, ⟨0x0006#16, "INTP0"⟩,
     ⟨0x0008#16, "INTP1"⟩, ⟨0x000A#16, "INTP2"⟩, ⟨0x000C#16, "INTP3"⟩,
     ⟨0x000E#16, "INTSR20/INTCSI20"⟩, ⟨0x0010#16, "INTST20"⟩, ⟨0x0012#16, "INTWT"⟩,
     ⟨0x0014#16, "INTWTI"⟩, ⟨0x0016#16, "INTTM80"⟩, ⟨0x0018#16, "INTTM81"⟩,
     ⟨0x001A#16, "INTTM82"⟩, ⟨0x001C#16, "INTTM90"⟩, ⟨0x001E#16, "INTSMB0"⟩,
     ⟨0x0020#16, "INTSMBOV0"⟩, ⟨0x0022#16, "INTAD0"⟩, ⟨0x0024#16, "INTLVI0"⟩,
     ⟨0x0026#16, "INTEE1"⟩]
  -- Table 1-9
  | .upd789407A | .upd789417A =>
    [⟨0x0000#16, "RESET input"⟩, ⟨0x0004#16, "INTWDT"⟩, ⟨0x0006#16, "INTP0"⟩,
     ⟨0x0008#16, "INTP1"⟩, ⟨0x000A#16, "INTP2"⟩, ⟨0x000C#16, "INTP3"⟩,
     ⟨0x000E#16, "INTSR00/INTCSI00"⟩, ⟨0x0010#16, "INTST00"⟩, ⟨0x0012#16, "INTWT"⟩,
     ⟨0x0014#16, "INTWTI"⟩, ⟨0x0016#16, "INTTM00"⟩, ⟨0x0018#16, "INTTM01"⟩,
     ⟨0x001A#16, "INTTM02"⟩, ⟨0x001C#16, "INTTM50"⟩, ⟨0x001E#16, "INTKR00"⟩,
     ⟨0x0020#16, "INTAD0"⟩, ⟨0x0022#16, "INTCMP0"⟩]
  -- Table 1-10
  | .upd789800 =>
    [⟨0x0000#16, "RESET input"⟩, ⟨0x0004#16, "INTWDT"⟩, ⟨0x0006#16, "INTUSBTM"⟩,
     ⟨0x0008#16, "INTUSBRT"⟩, ⟨0x000A#16, "INTUSBRD"⟩, ⟨0x000C#16, "INTUSBST"⟩,
     ⟨0x000E#16, "INTUSBRE"⟩, ⟨0x0010#16, "INTP0"⟩, ⟨0x0012#16, "INTCSI10"⟩,
     ⟨0x0014#16, "INTTM00"⟩, ⟨0x0016#16, "INTTM01"⟩, ⟨0x0018#16, "INTKR00"⟩]
  -- Table 1-11
  | .upd789842 =>
    [⟨0x0000#16, "RESET input"⟩, ⟨0x0004#16, "INTWDT"⟩, ⟨0x0006#16, "INTP0"⟩,
     ⟨0x0008#16, "INTP1"⟩, ⟨0x000A#16, "INTTM7"⟩, ⟨0x000C#16, "INTSER00"⟩,
     ⟨0x000E#16, "INTSR00"⟩, ⟨0x0016#16, "INTST00"⟩, ⟨0x0018#16, "INTWT"⟩,
     ⟨0x001A#16, "INTWTI"⟩, ⟨0x001C#16, "INTTM80"⟩, ⟨0x001E#16, "INTTM81"⟩,
     ⟨0x0020#16, "INTTM82"⟩, ⟨0x0022#16, "INTAD"⟩]

/-- The product record of a part, with the parameters no source gives (`SFR_MAP`, `PSW_FIXED`,
`FETCH_FROM_RAM`) as arguments (00_scope.md R7). -/
def Part.product (p : Part) (sfrMap : List SfrEntry) (pswFixed : PswFixed)
    (fetchFromRam : Bool) : Product :=
  { romTop := p.romTop
    ramBase := p.ramBase
    lcdRam := p.subseries.lcdRam
    eeprom := p.subseries.eeprom
    vectors := p.subseries.vectors
    sfrMap := sfrMap
    pswFixed := pswFixed
    fetchFromRam := fetchFromRam }

/-- The test configuration of 00_scope.md R14: the µPD789104, one storage SFR at FF00H in 1-bit
and 8-bit units, PSW hardwired, no fetch from RAM. -/
def testProduct : Product :=
  Part.product .p789104
    [⟨0xFF00#16, true, true, false, true, true, .storage⟩] .hardwired false

end Sys2Proof.Machine
end

