-- ==== Sys2Proof/Machine/State.lean ====
section
/-! DEFINITION. The state of the machine, why a step can stop, and the machine right after reset
(10_state.md; 60_exceptions.md R341, R344; 70_reset_and_hazards.md R370). -/

namespace Sys2Proof.Machine

/-- The spec's faults: state that holds no value was read (10_state.md R39, 20_memory.md R62,
R80; 93_implementation_defined.md U5, U6). -/
inductive Fault where
  /-- A data, stack, vector or CALLT-table read of a RAM, LCD RAM or ROM byte nothing has written: the
  spec's fault (10_state.md R39, 20_memory.md R62, R80, 60_exceptions.md R341,
  70_reset_and_hazards.md R370, U5, U6). No register, SFRs included, is read so (logs 3, 4, 34).
  Raised by the memory reads. Safe: the machine stops where the hardware reads some value. -/
  | unwritten (addr : Word)
  /-- An instruction fetch of a byte the ROM (or RAM) image does not define (R62). Raised by the
  fetch. Safe. -/
  | unwrittenFetch (addr : Word)
deriving DecidableEq, Repr

/-- Where the spec declines to give a meaning: the table of 60_exceptions.md R341. Each is safe:
the machine stops and nothing can be proved of what the silicon does. -/
inductive Refusal where
  /-- An instruction this model has not reached: raised by an arm of `exec` and nothing else. Safe. -/
  | notModelled (mnemonic : String)
  /-- B1 is not an assigned code (30_encoding.md R122, R124). Raised by the decode. Safe. -/
  | unassignedFirst (b1 : Byte)
  /-- B2 after 0AH is not an assigned code (30_encoding.md R123, R124). Raised by the decode.
  Safe. -/
  | unassignedSecond (b2 : Byte)
  /-- An instruction fetch from an address with no fetch right (20_memory.md R69). Raised by the
  fetch. Safe. -/
  | fetchRight (addr : Word)
  /-- A fetch of a byte the program has stored (20_memory.md R94). Raised by the fetch. Safe. -/
  | selfModifying (addr : Word)
  /-- A data access to an address in no region (20_memory.md R69, R85). Raised by the memory
  reads and writes. Safe. -/
  | unmapped (addr : Word)
  /-- A data write to internal ROM (20_memory.md R69). Raised by the memory writes. Safe. -/
  | romWrite (addr : Word)
  /-- A data write to EEPROM (20_memory.md R66, R69). Raised by the memory writes. Safe. -/
  | eepromWrite (addr : Word)
  /-- An SFR address with no entry in `SFR_MAP` (20_memory.md R68). Raised by the memory reads
  and writes. Safe. -/
  | noSfr (addr : Word)
  /-- An access unit the SFR does not list (93_implementation_defined.md U14). Raised by the
  memory reads and writes. Safe. -/
  | sfrUnit (addr : Word)
  /-- A read of an SFR that is not readable (20_memory.md R68). Raised by the memory reads.
  Safe. -/
  | sfrNotReadable (addr : Word)
  /-- A write of an SFR that is not writable (20_memory.md R68). Raised by the memory writes.
  Safe. -/
  | sfrNotWritable (addr : Word)
  /-- An effective address FF1CH, FF1DH or FF1EH (20_memory.md R97, D9). Raised by the memory
  reads and writes. Safe. -/
  | pswSpAddress (addr : Word)
  /-- Offset 1CH, 1DH or 1EH in a form with no PSW or SP meaning (20_memory.md R97,
  30_encoding.md R125). Raised by the decode and the operand addresses. Safe. -/
  | pswSpOffset (o : Byte)
  /-- Sfr-offset D0H to DFH (20_memory.md R73, R97). Raised by the decode and the operand
  addresses. Safe. -/
  | sfrOffset (o : Byte)
  /-- Odd Saddr-offset of a 16-bit operand (20_memory.md R82, R97). Raised by the decode and the
  operand addresses. Safe. -/
  | oddSaddrp (o : Byte)
  /-- A stack byte outside internal high-speed RAM (20_memory.md R98). Raised by the stack
  accesses. Safe. -/
  | stackOutsideRam (addr : Word)
  /-- `PSW.bit` with a bit number that names no flag (45_bit_manipulation.md R274). Raised by
  `SET1`, `CLR1`, `BT`, `BF` of `PSW.bit`. Safe. -/
  | nonFlagBit (b : BitVec 3)
deriving DecidableEq, Repr

/-- Why an operation stops: the spec's two treatments that end a run
(93_implementation_defined.md, its opening). -/
inductive Stop where
  | fault (r : Fault)
  | refused (r : Refusal)
deriving DecidableEq, Repr

/-- What a meaning or a step answers. -/
abbrev Out (σ : Type) := Host.Outcome σ Fault Refusal

/-- A partial operation: a value, or why it stops. -/
abbrev Res (α : Type) := Except Stop α

/-- The standby mode (10_state.md R35). -/
inductive Mode where
  | run | halt | stop
deriving DecidableEq, Repr

/-- The eight general-purpose registers (10_state.md R20). Pairs are views of them (R21). -/
structure Regs where
  x : Byte
  a : Byte
  c : Byte
  b : Byte
  e : Byte
  d : Byte
  l : Byte
  h : Byte
deriving DecidableEq, Repr

/-- The platform's record of one interrupt source (10_state.md R36). -/
structure IntSource where
  /-- its vector table address (60_exceptions.md R343) -/
  vector : Word
  /-- a request is pending -/
  pending : Bool
  /-- its interrupt mask flag disables it (60_exceptions.md R344) -/
  masked : Bool
  nonMaskable : Bool
deriving DecidableEq, Repr

/-- What `INT_CTRL.offer` does at a boundary (60_exceptions.md R344, R347, R348). -/
inductive OfferRule where
  /-- no request is offered, pending or not: acknowledgment latency is not specified (R347) -/
  | withheld
  /-- this request, if the contract of R344 lets it be offered -/
  | chosen (vector : Word)
  /-- the default controller of R348 (D26): a non-maskable request first, then the lowest vector
  address; not to be relied on in a claim about silicon -/
  | byDefault
deriving DecidableEq, Repr

/-- What the outside world does around one step (60_exceptions.md R344, R345, R361, R362). -/
structure PlatformInput where
  /-- the RESET input is asserted (R345) -/
  reset : Bool
  /-- the platform's new interrupt state, if it changes (R344, R364) -/
  sources : Option (List IntSource)
  /-- storage SFR bytes the platform changes (R361) -/
  sfr : List Host.Cell
  /-- `INT_CTRL.offer` -/
  offer : OfferRule
  /-- `INT_CTRL.acknowledged` leaves the request pending (R344) -/
  keepRequest : Bool
  /-- `INT_CTRL.release` (R362) -/
  release : Bool
deriving DecidableEq, Repr

/-- The machine. INVENTORY.md, State, names the rule behind each field. -/
structure State where
  /-- general-purpose registers (10_state.md R20) -/
  regs : Regs
  /-- program counter (R23) -/
  pc : Word
  /-- stack pointer (R32) -/
  sp : Word
  /-- program status word (R25, R26) -/
  psw : Byte
  /-- PSW has been written as a byte since reset (R27, `PSW_FIXED` = open) -/
  pswByteWritten : Bool
  /-- non-maskable interrupt servicing flag (R33) -/
  nmis : Bool
  /-- interrupt-hold marker (R34) -/
  hold : Bool
  /-- standby mode (R35) -/
  mode : Mode
  /-- the memory space: written bytes only, addresses strictly rising (R37, 20_memory.md R60) -/
  mem : List Host.Cell
  /-- fetchable RAM addresses the program has stored to (20_memory.md R94); the model's own -/
  stored : List Nat
  /-- how many free values have been drawn (00_scope.md R11); the model's own -/
  draws : Nat
  /-- output trace of writes to device SFRs, newest first (20_memory.md R68, D8); the model's own -/
  sfrLog : List Host.Cell
  /-- the platform's interrupt state (10_state.md R36) -/
  intc : List IntSource
  /-- the platform's script, one entry a step (60_exceptions.md R344); the model's own -/
  inputs : List PlatformInput
  /-- the product (00_scope.md R7) -/
  prod : Product
deriving DecidableEq, Repr

/-- The registers after reset. The spec gives no value; DESIGN CHOICE 00H, unsafe (log 3). -/
def Regs.atReset : Regs := ⟨0#8, 0#8, 0#8, 0#8, 0#8, 0#8, 0#8, 0#8⟩

/-- The platform's interrupt state after reset: no request of the vector table pending, all masked
and maskable. The spec leaves it to the platform; DESIGN CHOICE, unsafe (log 9). -/
def intcAtReset (p : Product) : List IntSource :=
  (p.vectors.filter (fun v => v.addr != 0#16)).map fun v => ⟨v.addr, false, true, false⟩

/-- The machine right after reset (10_state.md R39, 70_reset_and_hazards.md R370): PSW 02H, NMIS,
`hold` clear, mode `run`, no memory byte written. PC 0080H is a DESIGN CHOICE, unsafe (log 5): the
reset vector is a ROM word and no image is loaded yet. SP 0000H is a DESIGN CHOICE, unsafe
(log 4). The product is the test configuration (log 7). -/
def State.reset : State :=
  { regs := Regs.atReset
    pc := 0x0080#16
    sp := 0x0000#16
    psw := 0x02#8
    pswByteWritten := false
    nmis := false
    hold := false
    mode := .run
    mem := []
    stored := []
    draws := 0
    sfrLog := []
    intc := intcAtReset testProduct
    inputs := []
    prod := testProduct }

end Sys2Proof.Machine
end

