-- ==== Sys2Proof/Machine/Bits.lean ====
section
/-! DEFINITION. Byte order, halves and sign extension (00_scope.md R11): the bit-level helpers of
the decoder and of the meanings. -/

namespace Sys2Proof.Machine

/-- `hi : lo`, the high byte in the high bits (R11). -/
def join (hi lo : Byte) : Word := hi ++ lo

/-- `w[15:8]` (R11). -/
def hiByte (w : Word) : Byte := w.extractLsb' 8 8

/-- `w[7:0]` (R11). -/
def loByte (w : Word) : Byte := w.extractLsb' 0 8

/-- `sext_16(v)` (R11). -/
def sext16 (v : Byte) : Word := v.signExtend 16

/-- `zext_16(v)` (R11). -/
def zext16 (v : Byte) : Word := v.zeroExtend 16

/-- The byte with only bit `b` set, `2^B` of 45_bit_manipulation.md R260. -/
def bitMask (b : BitVec 3) : Byte := 1#8 <<< b.toNat

/-- The byte `v` with bit `b` set (R260). -/
def setBit (v : Byte) (b : BitVec 3) : Byte := v ||| bitMask b

/-- The byte `v` with bit `b` cleared (R265). -/
def clearBit (v : Byte) (b : BitVec 3) : Byte := v &&& ~~~ bitMask b

/-- `v[B]` (R11). -/
def testBit (v : Byte) (b : BitVec 3) : Bool := v.getLsbD b.toNat

end Sys2Proof.Machine
end

