-- ==== Sys2Proof/Syntax.lean ====
section
/-! DEFINITION. The whole instruction set: one constructor for each of the 148 rows of
spec/opcode_table.json (30_encoding.md R134, R135), in its order. Operand names are the fields of
40_data_transfer_8bit.md R167: `r` register, `rp` pair, `data` and `word` immediates, `so` and
`fo` Saddr-offset and Sfr-offset, `addr` a 16-bit address, `b` bit number, `t` CALLT index, `jd`
displacement. -/

namespace Sys2Proof

/-- The eight general-purpose registers (10_state.md R20). -/
inductive Reg where
  | x | a | c | b | e | d | l | h
deriving DecidableEq, Repr

/-- The four register pairs (10_state.md R21). -/
inductive RegPair where
  | ax | bc | de | hl
deriving DecidableEq, Repr

/-- One operand form each; the comment is the source's own spelling and its rule. -/
inductive Instr where
  /-- `MOV r, #byte` (R140) -/
  | movRByte (r : Reg) (data : Byte)
  /-- `MOV saddr, #byte` (R141) -/
  | movSaddrByte (so : Byte) (data : Byte)
  /-- `MOV sfr, #byte` (R142) -/
  | movSfrByte (fo : Byte) (data : Byte)
  /-- `MOV A, r` (R143) -/
  | movAR (r : Reg)
  /-- `MOV r, A` (R144) -/
  | movRA (r : Reg)
  /-- `MOV A, saddr` (R145) -/
  | movASaddr (so : Byte)
  /-- `MOV saddr, A` (R146) -/
  | movSaddrA (so : Byte)
  /-- `MOV A, sfr` (R147) -/
  | movASfr (fo : Byte)
  /-- `MOV sfr, A` (R148) -/
  | movSfrA (fo : Byte)
  /-- `MOV A, !addr16` (R149) -/
  | movAAddr16 (addr : Word)
  /-- `MOV !addr16, A` (R150) -/
  | movAddr16A (addr : Word)
  /-- `MOV PSW, #byte` (R151) -/
  | movPswByte (data : Byte)
  /-- `MOV A, PSW` (R152) -/
  | movAPsw
  /-- `MOV PSW, A` (R153) -/
  | movPswA
  /-- `MOV A, [DE]` (R154) -/
  | movADe
  /-- `MOV [DE], A` (R155) -/
  | movDeA
  /-- `MOV A, [HL]` (R156) -/
  | movAHl
  /-- `MOV [HL], A` (R157) -/
  | movHlA
  /-- `MOV A, [HL + byte]` (R158) -/
  | movAHlb (data : Byte)
  /-- `MOV [HL + byte], A` (R159) -/
  | movHlbA (data : Byte)
  /-- `XCH A, X` (R160) -/
  | xchAX
  /-- `XCH A, r` (R161) -/
  | xchAR (r : Reg)
  /-- `XCH A, saddr` (R162) -/
  | xchASaddr (so : Byte)
  /-- `XCH A, sfr` (R163) -/
  | xchASfr (fo : Byte)
  /-- `XCH A, [DE]` (R164) -/
  | xchADe
  /-- `XCH A, [HL]` (R165) -/
  | xchAHl
  /-- `XCH A, [HL + byte]` (R166) -/
  | xchAHlb (data : Byte)
  /-- `MOVW rp, #word` (R170) -/
  | movwRpWord (rp : RegPair) (word : Word)
  /-- `MOVW AX, saddrp` (R171) -/
  | movwAxSaddrp (so : Byte)
  /-- `MOVW saddrp, AX` (R172) -/
  | movwSaddrpAx (so : Byte)
  /-- `MOVW AX, rp` (R173) -/
  | movwAxRp (rp : RegPair)
  /-- `MOVW rp, AX` (R174) -/
  | movwRpAx (rp : RegPair)
  /-- `XCHW AX, rp` (R175) -/
  | xchwAxRp (rp : RegPair)
  /-- `ADD A, #byte` (R180) -/
  | addAByte (data : Byte)
  /-- `ADD saddr, #byte` (R181) -/
  | addSaddrByte (so : Byte) (data : Byte)
  /-- `ADD A, r` (R182) -/
  | addAR (r : Reg)
  /-- `ADD A, saddr` (R183) -/
  | addASaddr (so : Byte)
  /-- `ADD A, !addr16` (R184) -/
  | addAAddr16 (addr : Word)
  /-- `ADD A, [HL]` (R185) -/
  | addAHl
  /-- `ADD A, [HL + byte]` (R186) -/
  | addAHlb (data : Byte)
  /-- `ADDC A, #byte` (R187) -/
  | addcAByte (data : Byte)
  /-- `ADDC saddr, #byte` (R188) -/
  | addcSaddrByte (so : Byte) (data : Byte)
  /-- `ADDC A, r` (R189) -/
  | addcAR (r : Reg)
  /-- `ADDC A, saddr` (R190) -/
  | addcASaddr (so : Byte)
  /-- `ADDC A, !addr16` (R191) -/
  | addcAAddr16 (addr : Word)
  /-- `ADDC A, [HL]` (R192) -/
  | addcAHl
  /-- `ADDC A, [HL + byte]` (R193) -/
  | addcAHlb (data : Byte)
  /-- `SUB A, #byte` (R194) -/
  | subAByte (data : Byte)
  /-- `SUB saddr, #byte` (R195) -/
  | subSaddrByte (so : Byte) (data : Byte)
  /-- `SUB A, r` (R196) -/
  | subAR (r : Reg)
  /-- `SUB A, saddr` (R197) -/
  | subASaddr (so : Byte)
  /-- `SUB A, !addr16` (R198) -/
  | subAAddr16 (addr : Word)
  /-- `SUB A, [HL]` (R199) -/
  | subAHl
  /-- `SUB A, [HL + byte]` (R200) -/
  | subAHlb (data : Byte)
  /-- `SUBC A, #byte` (R201) -/
  | subcAByte (data : Byte)
  /-- `SUBC saddr, #byte` (R202) -/
  | subcSaddrByte (so : Byte) (data : Byte)
  /-- `SUBC A, r` (R203) -/
  | subcAR (r : Reg)
  /-- `SUBC A, saddr` (R204) -/
  | subcASaddr (so : Byte)
  /-- `SUBC A, !addr16` (R205) -/
  | subcAAddr16 (addr : Word)
  /-- `SUBC A, [HL]` (R206) -/
  | subcAHl
  /-- `SUBC A, [HL + byte]` (R207) -/
  | subcAHlb (data : Byte)
  /-- `AND A, #byte` (R208) -/
  | andAByte (data : Byte)
  /-- `AND saddr, #byte` (R209) -/
  | andSaddrByte (so : Byte) (data : Byte)
  /-- `AND A, r` (R210) -/
  | andAR (r : Reg)
  /-- `AND A, saddr` (R211) -/
  | andASaddr (so : Byte)
  /-- `AND A, !addr16` (R212) -/
  | andAAddr16 (addr : Word)
  /-- `AND A, [HL]` (R213) -/
  | andAHl
  /-- `AND A, [HL + byte]` (R214) -/
  | andAHlb (data : Byte)
  /-- `OR A, #byte` (R215) -/
  | orAByte (data : Byte)
  /-- `OR saddr, #byte` (R216) -/
  | orSaddrByte (so : Byte) (data : Byte)
  /-- `OR A, r` (R217) -/
  | orAR (r : Reg)
  /-- `OR A, saddr` (R218) -/
  | orASaddr (so : Byte)
  /-- `OR A, !addr16` (R219) -/
  | orAAddr16 (addr : Word)
  /-- `OR A, [HL]` (R220) -/
  | orAHl
  /-- `OR A, [HL + byte]` (R221) -/
  | orAHlb (data : Byte)
  /-- `XOR A, #byte` (R222) -/
  | xorAByte (data : Byte)
  /-- `XOR saddr, #byte` (R223) -/
  | xorSaddrByte (so : Byte) (data : Byte)
  /-- `XOR A, r` (R224) -/
  | xorAR (r : Reg)
  /-- `XOR A, saddr` (R225) -/
  | xorASaddr (so : Byte)
  /-- `XOR A, !addr16` (R226) -/
  | xorAAddr16 (addr : Word)
  /-- `XOR A, [HL]` (R227) -/
  | xorAHl
  /-- `XOR A, [HL + byte]` (R228) -/
  | xorAHlb (data : Byte)
  /-- `CMP A, #byte` (R229) -/
  | cmpAByte (data : Byte)
  /-- `CMP saddr, #byte` (R230) -/
  | cmpSaddrByte (so : Byte) (data : Byte)
  /-- `CMP A, r` (R231) -/
  | cmpAR (r : Reg)
  /-- `CMP A, saddr` (R232) -/
  | cmpASaddr (so : Byte)
  /-- `CMP A, !addr16` (R233) -/
  | cmpAAddr16 (addr : Word)
  /-- `CMP A, [HL]` (R234) -/
  | cmpAHl
  /-- `CMP A, [HL + byte]` (R235) -/
  | cmpAHlb (data : Byte)
  /-- `ADDW AX, #word` (R240) -/
  | addwAxWord (word : Word)
  /-- `SUBW AX, #word` (R241) -/
  | subwAxWord (word : Word)
  /-- `CMPW AX, #word` (R242) -/
  | cmpwAxWord (word : Word)
  /-- `INC r` (R245) -/
  | incR (r : Reg)
  /-- `INC saddr` (R246) -/
  | incSaddr (so : Byte)
  /-- `DEC r` (R247) -/
  | decR (r : Reg)
  /-- `DEC saddr` (R248) -/
  | decSaddr (so : Byte)
  /-- `INCW rp` (R249) -/
  | incwRp (rp : RegPair)
  /-- `DECW rp` (R250) -/
  | decwRp (rp : RegPair)
  /-- `ROR A, 1` (R251) -/
  | ror
  /-- `ROL A, 1` (R252) -/
  | rol
  /-- `RORC A, 1` (R253) -/
  | rorc
  /-- `ROLC A, 1` (R254) -/
  | rolc
  /-- `SET1 saddr.bit` (R260) -/
  | set1Saddr (b : BitVec 3) (so : Byte)
  /-- `SET1 sfr.bit` (R261) -/
  | set1Sfr (b : BitVec 3) (fo : Byte)
  /-- `SET1 A.bit` (R262) -/
  | set1A (b : BitVec 3)
  /-- `SET1 PSW.bit` (R263) -/
  | set1Psw (b : BitVec 3)
  /-- `SET1 [HL].bit` (R264) -/
  | set1Hl (b : BitVec 3)
  /-- `CLR1 saddr.bit` (R265) -/
  | clr1Saddr (b : BitVec 3) (so : Byte)
  /-- `CLR1 sfr.bit` (R266) -/
  | clr1Sfr (b : BitVec 3) (fo : Byte)
  /-- `CLR1 A.bit` (R267) -/
  | clr1A (b : BitVec 3)
  /-- `CLR1 PSW.bit` (R268) -/
  | clr1Psw (b : BitVec 3)
  /-- `CLR1 [HL].bit` (R269) -/
  | clr1Hl (b : BitVec 3)
  /-- `SET1 CY` (R270) -/
  | set1Cy
  /-- `CLR1 CY` (R271) -/
  | clr1Cy
  /-- `NOT1 CY` (R272) -/
  | not1Cy
  /-- `CALL !addr16` (R280) -/
  | callAddr16 (addr : Word)
  /-- `CALLT [addr5]` (R281) -/
  | callt (t : BitVec 5)
  /-- `RET` (R282) -/
  | ret
  /-- `RETI` (R283) -/
  | reti
  /-- `PUSH PSW` (R290) -/
  | pushPsw
  /-- `PUSH rp` (R291) -/
  | pushRp (rp : RegPair)
  /-- `POP PSW` (R292) -/
  | popPsw
  /-- `POP rp` (R293) -/
  | popRp (rp : RegPair)
  /-- `MOVW SP, AX` (R294) -/
  | movwSpAx
  /-- `MOVW AX, SP` (R295) -/
  | movwAxSp
  /-- `BR !addr16` (R300) -/
  | brAddr16 (addr : Word)
  /-- `BR $addr16` (R301) -/
  | brRel (jd : Byte)
  /-- `BR AX` (R302) -/
  | brAx
  /-- `BC $addr16` (R303) -/
  | bc (jd : Byte)
  /-- `BNC $addr16` (R304) -/
  | bnc (jd : Byte)
  /-- `BZ $addr16` (R305) -/
  | bz (jd : Byte)
  /-- `BNZ $addr16` (R306) -/
  | bnz (jd : Byte)
  /-- `BT saddr.bit, $addr16` (R307) -/
  | btSaddr (b : BitVec 3) (so : Byte) (jd : Byte)
  /-- `BT sfr.bit, $addr16` (R308) -/
  | btSfr (b : BitVec 3) (fo : Byte) (jd : Byte)
  /-- `BT A.bit, $addr16` (R309) -/
  | btA (b : BitVec 3) (jd : Byte)
  /-- `BT PSW.bit, $addr16` (R310) -/
  | btPsw (b : BitVec 3) (jd : Byte)
  /-- `BF saddr.bit, $addr16` (R311) -/
  | bfSaddr (b : BitVec 3) (so : Byte) (jd : Byte)
  /-- `BF sfr.bit, $addr16` (R312) -/
  | bfSfr (b : BitVec 3) (fo : Byte) (jd : Byte)
  /-- `BF A.bit, $addr16` (R313) -/
  | bfA (b : BitVec 3) (jd : Byte)
  /-- `BF PSW.bit, $addr16` (R314) -/
  | bfPsw (b : BitVec 3) (jd : Byte)
  /-- `DBNZ B, $addr16` (R315) -/
  | dbnzB (jd : Byte)
  /-- `DBNZ C, $addr16` (R316) -/
  | dbnzC (jd : Byte)
  /-- `DBNZ saddr, $addr16` (R317) -/
  | dbnzSaddr (so : Byte) (jd : Byte)
  /-- `NOP` (R325) -/
  | nop
  /-- `EI` (R326) -/
  | ei
  /-- `DI` (R327) -/
  | di
  /-- `HALT` (R328) -/
  | halt
  /-- `STOP` (R329) -/
  | stop
deriving DecidableEq, Repr

end Sys2Proof
end

