-- ==== Sys2Proof/WellFormed.lean ====
section
/-! DEFINITION. Which operands an instruction may carry: the exclusions of 30_encoding.md R121 and
R125 and of 20_memory.md R73 and R82. Every instruction the decoder answers is well formed. -/

namespace Sys2Proof

/-- A Saddr-offset that names memory: not 1CH, 1DH, 1EH, where SP and PSW sit (R97, R125). -/
def saddrOk (so : Byte) : Bool := so != 0x1C#8 && so != 0x1D#8 && so != 0x1E#8

/-- A Saddr-offset of a 16-bit operand: even (R82) and naming memory (R97, R125). -/
def saddrpOk (so : Byte) : Bool := !so.getLsbD 0 && so != 0x1C#8 && so != 0x1E#8

/-- An Sfr-offset: 00H to CFH or E0H to FFH (R73), less 1CH to 1EH (R125). -/
def sfrOk (fo : Byte) : Bool :=
  !(0xD0#8 ≤ fo && fo ≤ 0xDF#8) && fo != 0x1C#8 && fo != 0x1D#8 && fo != 0x1E#8

/-- The operand checks of every instruction. -/
def Instr.wf : Instr → Bool
  | .movRByte _ _ => true
  | .movSaddrByte so _ => saddrOk so
  | .movSfrByte fo _ => sfrOk fo
  | .movAR r => r != .a
  | .movRA r => r != .a
  | .movASaddr so => saddrOk so
  | .movSaddrA so => saddrOk so
  | .movASfr fo => sfrOk fo
  | .movSfrA fo => sfrOk fo
  | .movAAddr16 _ => true
  | .movAddr16A _ => true
  | .movPswByte _ => true
  | .movAPsw => true
  | .movPswA => true
  | .movADe => true
  | .movDeA => true
  | .movAHl => true
  | .movHlA => true
  | .movAHlb _ => true
  | .movHlbA _ => true
  | .xchAX => true
  | .xchAR r => r != .a && r != .x
  | .xchASaddr so => saddrOk so
  | .xchASfr fo => sfrOk fo
  | .xchADe => true
  | .xchAHl => true
  | .xchAHlb _ => true
  | .movwRpWord _ _ => true
  | .movwAxSaddrp so => saddrpOk so
  | .movwSaddrpAx so => saddrpOk so
  | .movwAxRp rp => rp != .ax
  | .movwRpAx rp => rp != .ax
  | .xchwAxRp rp => rp != .ax
  | .addAByte _ => true
  | .addSaddrByte so _ => saddrOk so
  | .addAR _ => true
  | .addASaddr so => saddrOk so
  | .addAAddr16 _ => true
  | .addAHl => true
  | .addAHlb _ => true
  | .addcAByte _ => true
  | .addcSaddrByte so _ => saddrOk so
  | .addcAR _ => true
  | .addcASaddr so => saddrOk so
  | .addcAAddr16 _ => true
  | .addcAHl => true
  | .addcAHlb _ => true
  | .subAByte _ => true
  | .subSaddrByte so _ => saddrOk so
  | .subAR _ => true
  | .subASaddr so => saddrOk so
  | .subAAddr16 _ => true
  | .subAHl => true
  | .subAHlb _ => true
  | .subcAByte _ => true
  | .subcSaddrByte so _ => saddrOk so
  | .subcAR _ => true
  | .subcASaddr so => saddrOk so
  | .subcAAddr16 _ => true
  | .subcAHl => true
  | .subcAHlb _ => true
  | .andAByte _ => true
  | .andSaddrByte so _ => saddrOk so
  | .andAR _ => true
  | .andASaddr so => saddrOk so
  | .andAAddr16 _ => true
  | .andAHl => true
  | .andAHlb _ => true
  | .orAByte _ => true
  | .orSaddrByte so _ => saddrOk so
  | .orAR _ => true
  | .orASaddr so => saddrOk so
  | .orAAddr16 _ => true
  | .orAHl => true
  | .orAHlb _ => true
  | .xorAByte _ => true
  | .xorSaddrByte so _ => saddrOk so
  | .xorAR _ => true
  | .xorASaddr so => saddrOk so
  | .xorAAddr16 _ => true
  | .xorAHl => true
  | .xorAHlb _ => true
  | .cmpAByte _ => true
  | .cmpSaddrByte so _ => saddrOk so
  | .cmpAR _ => true
  | .cmpASaddr so => saddrOk so
  | .cmpAAddr16 _ => true
  | .cmpAHl => true
  | .cmpAHlb _ => true
  | .addwAxWord _ => true
  | .subwAxWord _ => true
  | .cmpwAxWord _ => true
  | .incR _ => true
  | .incSaddr so => saddrOk so
  | .decR _ => true
  | .decSaddr so => saddrOk so
  | .incwRp _ => true
  | .decwRp _ => true
  | .ror => true
  | .rol => true
  | .rorc => true
  | .rolc => true
  | .set1Saddr _ so => saddrOk so
  | .set1Sfr _ fo => sfrOk fo
  | .set1A _ => true
  | .set1Psw b => b != 7#3
  | .set1Hl _ => true
  | .clr1Saddr _ so => saddrOk so
  | .clr1Sfr _ fo => sfrOk fo
  | .clr1A _ => true
  | .clr1Psw b => b != 7#3
  | .clr1Hl _ => true
  | .set1Cy => true
  | .clr1Cy => true
  | .not1Cy => true
  | .callAddr16 _ => true
  | .callt _ => true
  | .ret => true
  | .reti => true
  | .pushPsw => true
  | .pushRp _ => true
  | .popPsw => true
  | .popRp _ => true
  | .movwSpAx => true
  | .movwAxSp => true
  | .brAddr16 _ => true
  | .brRel _ => true
  | .brAx => true
  | .bc _ => true
  | .bnc _ => true
  | .bz _ => true
  | .bnz _ => true
  | .btSaddr _ so _ => saddrOk so
  | .btSfr _ fo _ => sfrOk fo
  | .btA _ _ => true
  | .btPsw _ _ => true
  | .bfSaddr _ so _ => saddrOk so
  | .bfSfr _ fo _ => sfrOk fo
  | .bfA _ _ => true
  | .bfPsw _ _ => true
  | .dbnzB _ => true
  | .dbnzC _ => true
  | .dbnzSaddr so _ => saddrOk so
  | .nop => true
  | .ei => true
  | .di => true
  | .halt => true
  | .stop => true

end Sys2Proof
end

