-- ==== Sys2Proof/Decode.lean ====
section
/-! DEFINITION. The decoder (30_encoding.md R110 to R126), total on any bytes and rejecting by
name, and after it the encoder, both written from the code lists R115 and R116. -/

namespace Sys2Proof

open Machine (join hiByte loByte)

/-- Why a byte sequence is no instruction. -/
inductive DecodeError where
  /-- fewer bytes than the form needs (the caller reports why the next byte is missing) -/
  | truncated
  /-- a first byte that R115 does not assign (R122) -/
  | unassignedFirst (b1 : Byte)
  /-- a second byte after 0AH that R116 does not assign (R123) -/
  | unassignedSecond (b2 : Byte)
  /-- Saddr-offset or Sfr-offset 1CH, 1DH, 1EH in a form with no PSW or SP meaning (R125) -/
  | pswSpOffset (o : Byte)
  /-- Sfr-offset D0H to DFH (20_memory.md R73) -/
  | sfrOffset (o : Byte)
  /-- odd Saddr-offset of a 16-bit operand (20_memory.md R82) -/
  | oddSaddrp (o : Byte)
deriving DecidableEq, Repr

/-- What the decoder answers: an instruction and the bytes after it, or why not. -/
abbrev Decoded := Except DecodeError (Instr × List Byte)

/-- Register code `R2 R1 R0` to register (10_state.md R20). -/
def Reg.ofCode (n : Nat) : Reg :=
  match n with
  | 0 => .x | 1 => .a | 2 => .c | 3 => .b | 4 => .e | 5 => .d | 6 => .l | _ => .h

/-- Register to register code (10_state.md R20). -/
def Reg.code : Reg → Nat
  | .x => 0 | .a => 1 | .c => 2 | .b => 3 | .e => 4 | .d => 5 | .l => 6 | .h => 7

/-- Register pair to pair code `P1 P0` (10_state.md R21). -/
def RegPair.code : RegPair → Nat
  | .ax => 0 | .bc => 1 | .de => 2 | .hl => 3

/-- A form with no further byte. -/
def form0 (i : Instr) (rest : List Byte) : Decoded := .ok (i, rest)

/-- A form with one more byte. -/
def form1 (k : Byte → Except DecodeError Instr) : List Byte → Decoded
  | b :: rest => (k b).map fun i => (i, rest)
  | [] => .error .truncated

/-- A form with two more bytes. -/
def form2 (k : Byte → Byte → Except DecodeError Instr) : List Byte → Decoded
  | b :: c :: rest => (k b c).map fun i => (i, rest)
  | [_] | [] => .error .truncated

/-- The check of a Saddr-offset (R125). -/
def checkSaddr (so : Byte) (i : Instr) : Except DecodeError Instr :=
  if saddrOk so then .ok i else .error (.pswSpOffset so)

/-- The check of a Saddr-offset of a 16-bit operand (R82, R125). -/
def checkSaddrp (so : Byte) (i : Instr) : Except DecodeError Instr :=
  if saddrpOk so then .ok i
  else if so.getLsbD 0 then .error (.oddSaddrp so) else .error (.pswSpOffset so)

/-- The check of an Sfr-offset (R73, R125). -/
def checkSfr (fo : Byte) (i : Instr) : Except DecodeError Instr :=
  if sfrOk fo then .ok i
  else if 0xD0#8 ≤ fo && fo ≤ 0xDF#8 then .error (.sfrOffset fo) else .error (.pswSpOffset fo)

/-- A register code that R121 excludes. -/
def unlessReg (b2 : Byte) (excluded : Bool) (i : Instr) (rest : List Byte) : Decoded :=
  if excluded then .error (.unassignedSecond b2) else form0 i rest

/-- The register forms after 0AH: `oooo R2 R1 R0 1` (R111 format `P2R`, `P3RD`; R116; R121). -/
def decodeRegForm (b2 : Byte) (r : Reg) (rest : List Byte) : Decoded :=
  match b2.toNat / 16 with
  | 0x0 => unlessReg b2 (r == .a || r == .x) (.xchAR r) rest
  | 0x1 => form0 (.cmpAR r) rest
  | 0x2 => unlessReg b2 (r == .a) (.movAR r) rest
  | 0x4 => form0 (.xorAR r) rest
  | 0x6 => form0 (.andAR r) rest
  | 0x7 => form0 (.orAR r) rest
  | 0x8 => form0 (.addAR r) rest
  | 0x9 => form0 (.subAR r) rest
  | 0xA => form0 (.addcAR r) rest
  | 0xB => form0 (.subcAR r) rest
  | 0xC => form0 (.incR r) rest
  | 0xD => form0 (.decR r) rest
  | 0xE => unlessReg b2 (r == .a) (.movRA r) rest
  | 0xF => form1 (fun data => .ok (.movRByte r data)) rest
  | _ => .error (.unassignedSecond b2)

/-- `SET1 saddr.bit` with the fixed-offset rows: `EI` and `SET1 PSW.bit` (R125). -/
def decodeSet1Saddr (b : BitVec 3) (so : Byte) : Except DecodeError Instr :=
  if so = 0x1E#8 then .ok (if b = 7#3 then .ei else .set1Psw b)
  else checkSaddr so (.set1Saddr b so)

/-- `CLR1 saddr.bit` with the fixed-offset rows: `DI` and `CLR1 PSW.bit` (R125). -/
def decodeClr1Saddr (b : BitVec 3) (so : Byte) : Except DecodeError Instr :=
  if so = 0x1E#8 then .ok (if b = 7#3 then .di else .clr1Psw b)
  else checkSaddr so (.clr1Saddr b so)

/-- `BT saddr.bit, $addr16`, or `BT PSW.bit, $addr16` (R125). -/
def decodeBtSaddr (b : BitVec 3) (so jd : Byte) : Except DecodeError Instr :=
  if so = 0x1E#8 then .ok (.btPsw b jd) else checkSaddr so (.btSaddr b so jd)

/-- `BF saddr.bit, $addr16`, or `BF PSW.bit, $addr16` (R125). -/
def decodeBfSaddr (b : BitVec 3) (so jd : Byte) : Except DecodeError Instr :=
  if so = 0x1E#8 then .ok (.bfPsw b jd) else checkSaddr so (.bfSaddr b so jd)

/-- The bit forms after 0AH, `t B2 B1 B0 ssss`: the low nibble selects the operand, `t` the
operation (R111, R114, R116). -/
def decodeBitForm (b2 : Byte) (t : Bool) (b : BitVec 3) (rest : List Byte) : Decoded :=
  match b2.toNat % 16 with
  | 0x0 => form1 (fun jd => .ok (if t then .btA b jd else .bfA b jd)) rest
  | 0x2 => form0 (if t then .clr1A b else .set1A b) rest
  | 0x4 => form2 (fun fo jd => checkSfr fo (if t then .btSfr b fo jd else .bfSfr b fo jd)) rest
  | 0x6 => form1 (fun fo => checkSfr fo (if t then .clr1Sfr b fo else .set1Sfr b fo)) rest
  | 0x8 => form2 (fun so jd => if t then decodeBtSaddr b so jd else decodeBfSaddr b so jd) rest
  | 0xA => form1 (fun so => if t then decodeClr1Saddr b so else decodeSet1Saddr b so) rest
  | 0xE => form0 (if t then .clr1Hl b else .set1Hl b) rest
  | _ => .error (.unassignedSecond b2)

/-- The map after 0AH (R114, R116). -/
def decodeSecond (b2 : Byte) (rest : List Byte) : Decoded :=
  if b2.toNat % 2 = 1 then decodeRegForm b2 (Reg.ofCode (b2.toNat / 2 % 8)) rest
  else decodeBitForm b2 (decide (128 ≤ b2.toNat)) (BitVec.ofNat 3 (b2.toNat / 16)) rest

/-- The codes of R115 other than `CALLT` and the prefix 0AH. -/
def decodeFirst (b1 : Byte) (rest : List Byte) : Decoded :=
  match b1.toNat with
  | 0x00 => form0 .ror rest
  | 0x02 => form0 .rorc rest
  | 0x04 => form0 .clr1Cy rest
  | 0x05 => form1 (fun so => checkSaddr so (.xchASaddr so)) rest
  | 0x06 => form0 .not1Cy rest
  | 0x07 => form1 (fun fo => checkSfr fo (.xchASfr fo)) rest
  | 0x08 => form0 .nop rest
  | 0x0B => form0 .xchADe rest
  | 0x0C => form0 .halt rest
  | 0x0D => form1 (fun data => .ok (.xchAHlb data)) rest
  | 0x0E => form0 .stop rest
  | 0x0F => form0 .xchAHl rest
  | 0x10 => form0 .rol rest
  | 0x11 => form2 (fun so data => checkSaddr so (.cmpSaddrByte so data)) rest
  | 0x12 => form0 .rolc rest
  | 0x13 => form1 (fun data => .ok (.cmpAByte data)) rest
  | 0x14 => form0 .set1Cy rest
  | 0x15 => form1 (fun so => checkSaddr so (.cmpASaddr so)) rest
  | 0x19 => form2 (fun lo hi => .ok (.cmpAAddr16 (join hi lo))) rest
  | 0x1D => form1 (fun data => .ok (.cmpAHlb data)) rest
  | 0x1F => form0 .cmpAHl rest
  | 0x20 => form0 .ret rest
  | 0x22 => form2 (fun lo hi => .ok (.callAddr16 (join hi lo))) rest
  | 0x24 => form0 .reti rest
  | 0x25 => form1 (fun so =>
      if so = 0x1E#8 then .ok .movAPsw else checkSaddr so (.movASaddr so)) rest
  | 0x27 => form1 (fun fo => checkSfr fo (.movASfr fo)) rest
  | 0x29 => form2 (fun lo hi => .ok (.movAAddr16 (join hi lo))) rest
  | 0x2B => form0 .movADe rest
  | 0x2C => form0 .popPsw rest
  | 0x2D => form1 (fun data => .ok (.movAHlb data)) rest
  | 0x2E => form0 .pushPsw rest
  | 0x2F => form0 .movAHl rest
  | 0x30 => form1 (fun jd => .ok (.brRel jd)) rest
  | 0x32 => form2 (fun so jd => checkSaddr so (.dbnzSaddr so jd)) rest
  | 0x34 => form1 (fun jd => .ok (.dbnzC jd)) rest
  | 0x36 => form1 (fun jd => .ok (.dbnzB jd)) rest
  | 0x38 => form1 (fun jd => .ok (.bc jd)) rest
  | 0x3A => form1 (fun jd => .ok (.bnc jd)) rest
  | 0x3C => form1 (fun jd => .ok (.bz jd)) rest
  | 0x3E => form1 (fun jd => .ok (.bnz jd)) rest
  | 0x41 => form2 (fun so data => checkSaddr so (.xorSaddrByte so data)) rest
  | 0x43 => form1 (fun data => .ok (.xorAByte data)) rest
  | 0x45 => form1 (fun so => checkSaddr so (.xorASaddr so)) rest
  | 0x49 => form2 (fun lo hi => .ok (.xorAAddr16 (join hi lo))) rest
  | 0x4D => form1 (fun data => .ok (.xorAHlb data)) rest
  | 0x4F => form0 .xorAHl rest
  | 0x61 => form2 (fun so data => checkSaddr so (.andSaddrByte so data)) rest
  | 0x63 => form1 (fun data => .ok (.andAByte data)) rest
  | 0x65 => form1 (fun so => checkSaddr so (.andASaddr so)) rest
  | 0x69 => form2 (fun lo hi => .ok (.andAAddr16 (join hi lo))) rest
  | 0x6D => form1 (fun data => .ok (.andAHlb data)) rest
  | 0x6F => form0 .andAHl rest
  | 0x71 => form2 (fun so data => checkSaddr so (.orSaddrByte so data)) rest
  | 0x73 => form1 (fun data => .ok (.orAByte data)) rest
  | 0x75 => form1 (fun so => checkSaddr so (.orASaddr so)) rest
  | 0x79 => form2 (fun lo hi => .ok (.orAAddr16 (join hi lo))) rest
  | 0x7D => form1 (fun data => .ok (.orAHlb data)) rest
  | 0x7F => form0 .orAHl rest
  | 0x80 => form0 (.incwRp .ax) rest
  | 0x81 => form2 (fun so data => checkSaddr so (.addSaddrByte so data)) rest
  | 0x83 => form1 (fun data => .ok (.addAByte data)) rest
  | 0x84 => form0 (.incwRp .bc) rest
  | 0x85 => form1 (fun so => checkSaddr so (.addASaddr so)) rest
  | 0x88 => form0 (.incwRp .de) rest
  | 0x89 => form2 (fun lo hi => .ok (.addAAddr16 (join hi lo))) rest
  | 0x8C => form0 (.incwRp .hl) rest
  | 0x8D => form1 (fun data => .ok (.addAHlb data)) rest
  | 0x8F => form0 .addAHl rest
  | 0x90 => form0 (.decwRp .ax) rest
  | 0x91 => form2 (fun so data => checkSaddr so (.subSaddrByte so data)) rest
  | 0x93 => form1 (fun data => .ok (.subAByte data)) rest
  | 0x94 => form0 (.decwRp .bc) rest
  | 0x95 => form1 (fun so => checkSaddr so (.subASaddr so)) rest
  | 0x98 => form0 (.decwRp .de) rest
  | 0x99 => form2 (fun lo hi => .ok (.subAAddr16 (join hi lo))) rest
  | 0x9C => form0 (.decwRp .hl) rest
  | 0x9D => form1 (fun data => .ok (.subAHlb data)) rest
  | 0x9F => form0 .subAHl rest
  | 0xA0 => form0 (.popRp .ax) rest
  | 0xA1 => form2 (fun so data => checkSaddr so (.addcSaddrByte so data)) rest
  | 0xA2 => form0 (.pushRp .ax) rest
  | 0xA3 => form1 (fun data => .ok (.addcAByte data)) rest
  | 0xA4 => form0 (.popRp .bc) rest
  | 0xA5 => form1 (fun so => checkSaddr so (.addcASaddr so)) rest
  | 0xA6 => form0 (.pushRp .bc) rest
  | 0xA8 => form0 (.popRp .de) rest
  | 0xA9 => form2 (fun lo hi => .ok (.addcAAddr16 (join hi lo))) rest
  | 0xAA => form0 (.pushRp .de) rest
  | 0xAC => form0 (.popRp .hl) rest
  | 0xAD => form1 (fun data => .ok (.addcAHlb data)) rest
  | 0xAE => form0 (.pushRp .hl) rest
  | 0xAF => form0 .addcAHl rest
  | 0xB0 => form0 .brAx rest
  | 0xB1 => form2 (fun so data => checkSaddr so (.subcSaddrByte so data)) rest
  | 0xB2 => form2 (fun lo hi => .ok (.brAddr16 (join hi lo))) rest
  | 0xB3 => form1 (fun data => .ok (.subcAByte data)) rest
  | 0xB5 => form1 (fun so => checkSaddr so (.subcASaddr so)) rest
  | 0xB9 => form2 (fun lo hi => .ok (.subcAAddr16 (join hi lo))) rest
  | 0xBD => form1 (fun data => .ok (.subcAHlb data)) rest
  | 0xBF => form0 .subcAHl rest
  | 0xC0 => form0 .xchAX rest
  | 0xC2 => form2 (fun lo hi => .ok (.subwAxWord (join hi lo))) rest
  | 0xC4 => form0 (.xchwAxRp .bc) rest
  | 0xC5 => form1 (fun so => checkSaddr so (.incSaddr so)) rest
  | 0xC8 => form0 (.xchwAxRp .de) rest
  | 0xCC => form0 (.xchwAxRp .hl) rest
  | 0xD2 => form2 (fun lo hi => .ok (.addwAxWord (join hi lo))) rest
  | 0xD4 => form0 (.movwAxRp .bc) rest
  | 0xD5 => form1 (fun so => checkSaddr so (.decSaddr so)) rest
  | 0xD6 => form1 (fun so =>
      if so = 0x1C#8 then .ok .movwAxSp else checkSaddrp so (.movwAxSaddrp so)) rest
  | 0xD8 => form0 (.movwAxRp .de) rest
  | 0xDC => form0 (.movwAxRp .hl) rest
  | 0xE2 => form2 (fun lo hi => .ok (.cmpwAxWord (join hi lo))) rest
  | 0xE4 => form0 (.movwRpAx .bc) rest
  | 0xE5 => form1 (fun so =>
      if so = 0x1E#8 then .ok .movPswA else checkSaddr so (.movSaddrA so)) rest
  | 0xE6 => form1 (fun so =>
      if so = 0x1C#8 then .ok .movwSpAx else checkSaddrp so (.movwSaddrpAx so)) rest
  | 0xE7 => form1 (fun fo => checkSfr fo (.movSfrA fo)) rest
  | 0xE8 => form0 (.movwRpAx .de) rest
  | 0xE9 => form2 (fun lo hi => .ok (.movAddr16A (join hi lo))) rest
  | 0xEB => form0 .movDeA rest
  | 0xEC => form0 (.movwRpAx .hl) rest
  | 0xED => form1 (fun data => .ok (.movHlbA data)) rest
  | 0xEF => form0 .movHlA rest
  | 0xF0 => form2 (fun lo hi => .ok (.movwRpWord .ax (join hi lo))) rest
  | 0xF4 => form2 (fun lo hi => .ok (.movwRpWord .bc (join hi lo))) rest
  | 0xF5 => form2 (fun so data =>
      if so = 0x1E#8 then .ok (.movPswByte data) else checkSaddr so (.movSaddrByte so data)) rest
  | 0xF7 => form2 (fun fo data => checkSfr fo (.movSfrByte fo data)) rest
  | 0xF8 => form2 (fun lo hi => .ok (.movwRpWord .de (join hi lo))) rest
  | 0xFC => form2 (fun lo hi => .ok (.movwRpWord .hl (join hi lo))) rest
  | _ => .error (.unassignedFirst b1)

/-- Decode the instruction at the head of `bytes`, B1 first (R126). `CALLT` is every code
`0 1 ta4..ta0 0` (R113, R120). -/
def decode (bytes : List Byte) : Decoded :=
  match bytes with
  | [] => .error .truncated
  | b1 :: rest =>
    if b1 = 0x0A#8 then
      match rest with
      | [] => .error .truncated
      | b2 :: rest2 => decodeSecond b2 rest2
    else if b1 &&& 0xC1#8 = 0x40#8 then form0 (.callt (b1.extractLsb' 1 5)) rest
    else decodeFirst b1 rest

/-- The second byte `oooo R2 R1 R0 1` (R112). -/
def regByte (op : Nat) (r : Reg) : Byte := BitVec.ofNat 8 (16 * op + 2 * r.code + 1)

/-- The second byte `t B2 B1 B0 ssss` (R112). -/
def bitByte (t : Bool) (b : BitVec 3) (low : Nat) : Byte :=
  BitVec.ofNat 8 ((if t then 128 else 0) + 16 * b.toNat + low)

/-- The first byte `oooo P1 P0 ss` (R112). -/
def pairByte (base : Nat) (rp : RegPair) : Byte := BitVec.ofNat 8 (base + 4 * rp.code)

/-- The bytes of an instruction, B1 first (R115, R116, R125; 16-bit operands low byte first,
R117). -/
def encode : Instr → List Byte
  | .movRByte r data => [0x0A, regByte 0xF r, data]
  | .movSaddrByte so data => [0xF5, so, data]
  | .movSfrByte fo data => [0xF7, fo, data]
  | .movAR r => [0x0A, regByte 0x2 r]
  | .movRA r => [0x0A, regByte 0xE r]
  | .movASaddr so => [0x25, so]
  | .movSaddrA so => [0xE5, so]
  | .movASfr fo => [0x27, fo]
  | .movSfrA fo => [0xE7, fo]
  | .movAAddr16 addr => [0x29, loByte addr, hiByte addr]
  | .movAddr16A addr => [0xE9, loByte addr, hiByte addr]
  | .movPswByte data => [0xF5, 0x1E, data]
  | .movAPsw => [0x25, 0x1E]
  | .movPswA => [0xE5, 0x1E]
  | .movADe => [0x2B]
  | .movDeA => [0xEB]
  | .movAHl => [0x2F]
  | .movHlA => [0xEF]
  | .movAHlb data => [0x2D, data]
  | .movHlbA data => [0xED, data]
  | .xchAX => [0xC0]
  | .xchAR r => [0x0A, regByte 0x0 r]
  | .xchASaddr so => [0x05, so]
  | .xchASfr fo => [0x07, fo]
  | .xchADe => [0x0B]
  | .xchAHl => [0x0F]
  | .xchAHlb data => [0x0D, data]
  | .movwRpWord rp word => [pairByte 0xF0 rp, loByte word, hiByte word]
  | .movwAxSaddrp so => [0xD6, so]
  | .movwSaddrpAx so => [0xE6, so]
  | .movwAxRp rp => [pairByte 0xD0 rp]
  | .movwRpAx rp => [pairByte 0xE0 rp]
  | .xchwAxRp rp => [pairByte 0xC0 rp]
  | .addAByte data => [0x83, data]
  | .addSaddrByte so data => [0x81, so, data]
  | .addAR r => [0x0A, regByte 0x8 r]
  | .addASaddr so => [0x85, so]
  | .addAAddr16 addr => [0x89, loByte addr, hiByte addr]
  | .addAHl => [0x8F]
  | .addAHlb data => [0x8D, data]
  | .addcAByte data => [0xA3, data]
  | .addcSaddrByte so data => [0xA1, so, data]
  | .addcAR r => [0x0A, regByte 0xA r]
  | .addcASaddr so => [0xA5, so]
  | .addcAAddr16 addr => [0xA9, loByte addr, hiByte addr]
  | .addcAHl => [0xAF]
  | .addcAHlb data => [0xAD, data]
  | .subAByte data => [0x93, data]
  | .subSaddrByte so data => [0x91, so, data]
  | .subAR r => [0x0A, regByte 0x9 r]
  | .subASaddr so => [0x95, so]
  | .subAAddr16 addr => [0x99, loByte addr, hiByte addr]
  | .subAHl => [0x9F]
  | .subAHlb data => [0x9D, data]
  | .subcAByte data => [0xB3, data]
  | .subcSaddrByte so data => [0xB1, so, data]
  | .subcAR r => [0x0A, regByte 0xB r]
  | .subcASaddr so => [0xB5, so]
  | .subcAAddr16 addr => [0xB9, loByte addr, hiByte addr]
  | .subcAHl => [0xBF]
  | .subcAHlb data => [0xBD, data]
  | .andAByte data => [0x63, data]
  | .andSaddrByte so data => [0x61, so, data]
  | .andAR r => [0x0A, regByte 0x6 r]
  | .andASaddr so => [0x65, so]
  | .andAAddr16 addr => [0x69, loByte addr, hiByte addr]
  | .andAHl => [0x6F]
  | .andAHlb data => [0x6D, data]
  | .orAByte data => [0x73, data]
  | .orSaddrByte so data => [0x71, so, data]
  | .orAR r => [0x0A, regByte 0x7 r]
  | .orASaddr so => [0x75, so]
  | .orAAddr16 addr => [0x79, loByte addr, hiByte addr]
  | .orAHl => [0x7F]
  | .orAHlb data => [0x7D, data]
  | .xorAByte data => [0x43, data]
  | .xorSaddrByte so data => [0x41, so, data]
  | .xorAR r => [0x0A, regByte 0x4 r]
  | .xorASaddr so => [0x45, so]
  | .xorAAddr16 addr => [0x49, loByte addr, hiByte addr]
  | .xorAHl => [0x4F]
  | .xorAHlb data => [0x4D, data]
  | .cmpAByte data => [0x13, data]
  | .cmpSaddrByte so data => [0x11, so, data]
  | .cmpAR r => [0x0A, regByte 0x1 r]
  | .cmpASaddr so => [0x15, so]
  | .cmpAAddr16 addr => [0x19, loByte addr, hiByte addr]
  | .cmpAHl => [0x1F]
  | .cmpAHlb data => [0x1D, data]
  | .addwAxWord word => [0xD2, loByte word, hiByte word]
  | .subwAxWord word => [0xC2, loByte word, hiByte word]
  | .cmpwAxWord word => [0xE2, loByte word, hiByte word]
  | .incR r => [0x0A, regByte 0xC r]
  | .incSaddr so => [0xC5, so]
  | .decR r => [0x0A, regByte 0xD r]
  | .decSaddr so => [0xD5, so]
  | .incwRp rp => [pairByte 0x80 rp]
  | .decwRp rp => [pairByte 0x90 rp]
  | .ror => [0x00]
  | .rol => [0x10]
  | .rorc => [0x02]
  | .rolc => [0x12]
  | .set1Saddr b so => [0x0A, bitByte false b 0xA, so]
  | .set1Sfr b fo => [0x0A, bitByte false b 0x6, fo]
  | .set1A b => [0x0A, bitByte false b 0x2]
  | .set1Psw b => [0x0A, bitByte false b 0xA, 0x1E]
  | .set1Hl b => [0x0A, bitByte false b 0xE]
  | .clr1Saddr b so => [0x0A, bitByte true b 0xA, so]
  | .clr1Sfr b fo => [0x0A, bitByte true b 0x6, fo]
  | .clr1A b => [0x0A, bitByte true b 0x2]
  | .clr1Psw b => [0x0A, bitByte true b 0xA, 0x1E]
  | .clr1Hl b => [0x0A, bitByte true b 0xE]
  | .set1Cy => [0x14]
  | .clr1Cy => [0x04]
  | .not1Cy => [0x06]
  | .callAddr16 addr => [0x22, loByte addr, hiByte addr]
  | .callt t => [0x40#8 ||| (t.zeroExtend 8 <<< 1)]
  | .ret => [0x20]
  | .reti => [0x24]
  | .pushPsw => [0x2E]
  | .pushRp rp => [pairByte 0xA2 rp]
  | .popPsw => [0x2C]
  | .popRp rp => [pairByte 0xA0 rp]
  | .movwSpAx => [0xE6, 0x1C]
  | .movwAxSp => [0xD6, 0x1C]
  | .brAddr16 addr => [0xB2, loByte addr, hiByte addr]
  | .brRel jd => [0x30, jd]
  | .brAx => [0xB0]
  | .bc jd => [0x38, jd]
  | .bnc jd => [0x3A, jd]
  | .bz jd => [0x3C, jd]
  | .bnz jd => [0x3E, jd]
  | .btSaddr b so jd => [0x0A, bitByte true b 0x8, so, jd]
  | .btSfr b fo jd => [0x0A, bitByte true b 0x4, fo, jd]
  | .btA b jd => [0x0A, bitByte true b 0x0, jd]
  | .btPsw b jd => [0x0A, bitByte true b 0x8, 0x1E, jd]
  | .bfSaddr b so jd => [0x0A, bitByte false b 0x8, so, jd]
  | .bfSfr b fo jd => [0x0A, bitByte false b 0x4, fo, jd]
  | .bfA b jd => [0x0A, bitByte false b 0x0, jd]
  | .bfPsw b jd => [0x0A, bitByte false b 0x8, 0x1E, jd]
  | .dbnzB jd => [0x36, jd]
  | .dbnzC jd => [0x34, jd]
  | .dbnzSaddr so jd => [0x32, so, jd]
  | .nop => [0x08]
  | .ei => [0x0A, 0x7A, 0x1E]
  | .di => [0x0A, 0xFA, 0x1E]
  | .halt => [0x0C]
  | .stop => [0x0E]

/-- The bytes of a word of spec/opcode_table.json: the table reads the `nbits / 8` bytes of a row
as one big-endian number, B1 the most significant byte (30_encoding.md R135, log 20); the bytes
after them, up to the longest instruction, are 0. -/
def tableBytes (nbits w : Nat) : List Byte :=
  ((List.range (nbits / 8)).map fun k => BitVec.ofNat 8 (w / 256 ^ (nbits / 8 - 1 - k)))
    ++ List.replicate (4 - nbits / 8) 0#8

/-- The instruction the decoder reads from a word of spec/opcode_table.json (log 20). -/
def decodeTableWord (nbits w : Nat) : Option Instr :=
  match decode (tableBytes nbits w) with
  | .ok (i, _) => some i
  | .error _ => none

end Sys2Proof
end

