-- ==== Sys2Proof/Machine/Flags.lean ====
section
/-! DEFINITION. The flags of PSW and every flag computation of the spec (10_state.md R25 to R31,
00_scope.md R12). -/

namespace Sys2Proof.Machine

/-- The four flags of PSW (10_state.md R25). -/
inductive Flag where
  | ie | z | ac | cy
deriving DecidableEq, Repr

/-- `PSW_Z_BIT`. PRESUMED by the spec (10_state.md R26, D1), unsafe, log 1. -/
def pswZBit : Nat := 6

/-- `PSW_AC_BIT`. PRESUMED by the spec (10_state.md R26, D1), unsafe, log 1. -/
def pswAcBit : Nat := 4

/-- `PSW_CY_BIT`. PRESUMED by the spec (10_state.md R26, D1), unsafe, log 1. -/
def pswCyBit : Nat := 0

/-- The PSW bit of a flag; IE is bit 7 by the codes of `EI` and `DI` (10_state.md R26). -/
def Flag.bit : Flag → Nat
  | .ie => 7
  | .z => pswZBit
  | .ac => pswAcBit
  | .cy => pswCyBit

/-- The byte with only the flag's bit set. -/
def Flag.mask (f : Flag) : Byte := 1#8 <<< f.bit

/-- The four flag bits of PSW: D1H under the positions of R26. -/
def flagMask : Byte := Flag.ie.mask ||| Flag.z.mask ||| Flag.ac.mask ||| Flag.cy.mask

/-- What the four non-flag bits read when they are not open: bits 5, 3, 2 are 0 and bit 1 is 1
(10_state.md R27). -/
def nonFlagReset : Byte := 0x02#8

/-- One flag of a PSW byte. -/
def pswFlag (psw : Byte) (f : Flag) : Bool := psw.getLsbD f.bit

/-- A PSW byte with one flag changed and no other bit (10_state.md R41). -/
def pswSetFlag (psw : Byte) (f : Flag) (v : Bool) : Byte :=
  if v then psw ||| f.mask else psw &&& ~~~ f.mask

/-- The flag a `PSW.bit` operand names, if it names one (45_bit_manipulation.md R263, R274). -/
def flagOfBit (b : BitVec 3) : Option Flag :=
  if b.toNat = 7 then some .ie
  else if b.toNat = pswZBit then some .z
  else if b.toNat = pswAcBit then some .ac
  else if b.toNat = pswCyBit then some .cy
  else none

/-- An 8-bit result with its three flags (00_scope.md R12). -/
structure Arith8 where
  res : Byte
  cy : Bool
  ac : Bool
  z : Bool
deriving DecidableEq, Repr

/-- `add8(a, b, c)` (00_scope.md R12). That the carry-in takes part in AC is DEDUCED by the spec,
log 24. -/
def add8 (a b : Byte) (c : Bool) : Arith8 :=
  let s := a.toNat + b.toNat + c.toNat
  { res := BitVec.ofNat 8 s
    cy := decide (255 < s)
    ac := decide (15 < a.toNat % 16 + b.toNat % 16 + c.toNat)
    z := decide (BitVec.ofNat 8 s = 0#8) }

/-- `sub8(a, b, c)` (00_scope.md R12), over the integers as the rule writes it. -/
def sub8 (a b : Byte) (c : Bool) : Arith8 :=
  let d : Int := (a.toNat : Int) - b.toNat - c.toNat
  { res := BitVec.ofInt 8 d
    cy := decide (d < 0)
    ac := decide (((a.toNat % 16 : Nat) : Int) - (b.toNat % 16 : Nat) - c.toNat < 0)
    z := decide (BitVec.ofInt 8 d = 0#8) }

/-- A 16-bit result with its two defined flags (00_scope.md R12). -/
structure Arith16 where
  res : Word
  cy : Bool
  z : Bool
deriving DecidableEq, Repr

/-- `add16(a, b)` (00_scope.md R12). -/
def add16 (a b : Word) : Arith16 :=
  let s := a.toNat + b.toNat
  { res := BitVec.ofNat 16 s
    cy := decide (65535 < s)
    z := decide (BitVec.ofNat 16 s = 0#16) }

/-- `sub16(a, b)` (00_scope.md R12). -/
def sub16 (a b : Word) : Arith16 :=
  let d : Int := (a.toNat : Int) - b.toNat
  { res := BitVec.ofInt 16 d
    cy := decide (d < 0)
    z := decide (BitVec.ofInt 16 d = 0#16) }

/-- The eight operations of 42_operation_8bit.md R236. -/
inductive AluOp where
  | add | addc | sub | subc | and | or | xor | cmp
deriving DecidableEq, Repr

/-- What one of the eight operations computes: the result, Z, and AC and CY where it writes them
(42_operation_8bit.md R237). -/
structure AluResult where
  res : Byte
  z : Bool
  /-- `some (ac, cy)` for the six that write AC and CY, `none` for `AND`, `OR`, `XOR` -/
  carries : Option (Bool × Bool)
deriving DecidableEq, Repr

/-- An arithmetic result as an operation's result. -/
def Arith8.toAlu (r : Arith8) : AluResult := ⟨r.res, r.z, some (r.ac, r.cy)⟩

/-- A logical result: Z only (10_state.md R31). -/
def logicAlu (res : Byte) : AluResult := ⟨res, decide (res = 0#8), none⟩

/-- The eight operations on operands `dst`, `src` with the CY flag (42_operation_8bit.md R180 to
R237). -/
def aluEval (op : AluOp) (dst src : Byte) (cy : Bool) : AluResult :=
  match op with
  | .add => (add8 dst src false).toAlu
  | .addc => (add8 dst src cy).toAlu
  | .sub => (sub8 dst src false).toAlu
  | .subc => (sub8 dst src cy).toAlu
  | .and => logicAlu (dst &&& src)
  | .or => logicAlu (dst ||| src)
  | .xor => logicAlu (dst ^^^ src)
  | .cmp => (sub8 dst src false).toAlu

/-- Whether the operation stores its result: all but `CMP` (42_operation_8bit.md R229). -/
def AluOp.stores : AluOp → Bool
  | .cmp => false
  | .add | .addc | .sub | .subc | .and | .or | .xor => true

/-- A PSW byte after one of the eight operations (10_state.md R31). -/
def pswAlu (psw : Byte) (r : AluResult) : Byte :=
  match r.carries with
  | some (ac, cy) => pswSetFlag (pswSetFlag (pswSetFlag psw .z r.z) .ac ac) .cy cy
  | none => pswSetFlag psw .z r.z

end Sys2Proof.Machine
end

