-- ==== Sys2Proof/Machine/Memory.lean ====
section
/-! DEFINITION. The memory space: its canonical list, its regions and their rights (20_memory.md
R60 to R69), and the two primitives `MemRead` and `MemWrite` (R80). -/

namespace Sys2Proof.Machine

/-- The canonical form of memory: addresses strictly rising, all in the 64-Kbyte space. What an unlisted
address reads as is no value (log 6), or an open byte that nothing can prove equal to a listed one
(logs 33, 34), so no listed byte equals it (`unlistedByte`). -/
abbrev Memory.wf (m : List Host.Cell) : Prop :=
  m.Pairwise (fun p q => p.1 < q.1) ∧ ∀ c ∈ m, c.1 < 65536

/-- The byte listed at an address: `none` is not listed (see `unlistedByte`). -/
def memGet : List Host.Cell → Nat → Option Byte
  | [], _ => none
  | (k, v) :: m, a => if k = a then some v else memGet m a

/-- Memory with one byte written, in canonical form. -/
def memPut : List Host.Cell → Nat → Byte → List Host.Cell
  | [], a, v => [(a, v)]
  | (k, w) :: m, a, v =>
    if a < k then (a, v) :: (k, w) :: m
    else if k = a then (a, v) :: m
    else (k, w) :: memPut m a v

/-- The regions of 20_memory.md R61, with the three addresses of R97 apart. -/
inductive Region where
  | rom | eeprom | lcdRam | ram | sfr
  /-- FF1CH, FF1DH, FF1EH: reached by the PSW and SP forms only (R97, D9) -/
  | pswSp
  | unmapped
deriving DecidableEq, Repr

/-- Whether the product has an EEPROM byte at the address (20_memory.md R66). -/
def eepromHolds (e : Eeprom) (a : Word) : Bool :=
  match e with
  | .absent => false
  | .bytes128 => 0xF800#16 ≤ a && a ≤ 0xF87F#16
  | .bytes256 => 0xF800#16 ≤ a && a ≤ 0xF8FF#16

/-- Internal high-speed RAM, `RAM_BASE` to FEFFH (20_memory.md R64); also `in_stack_ram` (R98). -/
def inStackRam (p : Product) (a : Word) : Bool := p.ramBase ≤ a && a ≤ 0xFEFF#16

/-- The region an address lies in (20_memory.md R61; the order matters only for a product record
whose regions overlap, which no product's do, log 31). -/
def region (p : Product) (a : Word) : Region :=
  if 0xFF00#16 ≤ a then
    if a = 0xFF1C#16 ∨ a = 0xFF1D#16 ∨ a = 0xFF1E#16 then .pswSp else .sfr
  else if inStackRam p a then .ram
  else if a ≤ p.romTop then .rom
  else if p.lcdRam && 0xFA00#16 ≤ a && a ≤ 0xFA1B#16 then .lcdRam
  else if eepromHolds p.eeprom a then .eeprom
  else .unmapped

/-- The unit of an access, which SFRs distinguish (20_memory.md R67). -/
inductive AccessUnit where
  | bit | byte | word
deriving DecidableEq, Repr

/-- The entry of an SFR address (20_memory.md R68). -/
def sfrEntry? (p : Product) (a : Word) : Option SfrEntry := p.sfrMap.find? fun e => e.addr == a

/-- Whether the register allows an access of this unit (20_memory.md R67, U14). -/
def sfrAllows (e : SfrEntry) : AccessUnit → Bool
  | .bit => e.bit1
  | .byte => e.bit8
  | .word => e.bit16

/-- A stop that is a refusal. -/
def refuse {α : Type} (r : Refusal) : Res α := .error (.refused r)

/-- The state with one more free value drawn (00_scope.md R11). -/
def State.drawn (s : State) : State := { s with draws := s.draws + 1 }

/-- The state with a byte stored. A store into RAM the PC may address is noted for the fetch
(20_memory.md R94, log 19). -/
def State.storeByte (s : State) (a : Word) (v : Byte) : State :=
  { s with
    mem := memPut s.mem a.toNat v
    stored := if s.prod.fetchFromRam && !s.stored.contains a.toNat then a.toNat :: s.stored
      else s.stored }

/-- The state with a write to a device SFR recorded in the output trace (20_memory.md R68, D8). -/
def State.logSfr (s : State) (a : Word) (v : Byte) : State :=
  { s with sfrLog := (a.toNat, v) :: s.sfrLog }

/-- What an unlisted address reads as: no value in RAM, LCD RAM and ROM (10_state.md R39,
20_memory.md R62, R80, log 6); an open byte in EEPROM (20_memory.md R66, log 33) and in a storage SFR,
a register and so never without a value (70_reset_and_hazards.md R370, log 34). -/
def unlistedByte (p : Product) (a : Word) : Option Byte :=
  match region p a with
  | .eeprom => some (Config.eepromByte a.toNat)
  | .sfr => some (Config.sfrByte a.toNat)
  | .rom | .lcdRam | .ram | .pswSp | .unmapped => none

/-- The byte held at an address: the one listed, else what an unlisted address reads as. -/
def State.held (s : State) (a : Word) : Option Byte :=
  (memGet s.mem a.toNat).or (unlistedByte s.prod a)

/-- The byte held at an address, or the fault of reading state that holds no value (R39). -/
def readCell (s : State) (a : Word) : Res Byte :=
  match s.held a with
  | some v => .ok v
  | none => .error (.fault (.unwritten a))

/-- A read of an SFR: its entry, its unit, its direction, its behaviour (20_memory.md R68). -/
def sfrRead (u : AccessUnit) (a : Word) (s : State) : Res (Byte × State) :=
  match sfrEntry? s.prod a with
  | none => refuse (.noSfr a)
  | some e =>
    if !sfrAllows e u then refuse (.sfrUnit a)
    else if !e.readable then refuse (.sfrNotReadable a)
    else match e.kind with
      | .storage => (readCell s a).map fun v => (v, s)
      | .device => .ok (Config.drawByte s.draws, s.drawn)

/-- A write of an SFR (20_memory.md R68). -/
def sfrWrite (u : AccessUnit) (a : Word) (v : Byte) (s : State) : Res State :=
  match sfrEntry? s.prod a with
  | none => refuse (.noSfr a)
  | some e =>
    if !sfrAllows e u then refuse (.sfrUnit a)
    else if !e.writable then refuse (.sfrNotWritable a)
    else match e.kind with
      | .storage => .ok (s.storeByte a v)
      | .device => .ok (s.logSfr a v)

/-- `MemRead(addr, 1)` with the access unit of the operand form (20_memory.md R69, R80, R97). -/
def memRead (u : AccessUnit) (a : Word) (s : State) : Res (Byte × State) :=
  match region s.prod a with
  | .rom | .eeprom | .lcdRam | .ram => (readCell s a).map fun v => (v, s)
  | .sfr => sfrRead u a s
  | .pswSp => refuse (.pswSpAddress a)
  | .unmapped => refuse (.unmapped a)

/-- `MemWrite(addr, 1, v)` with the access unit of the operand form (20_memory.md R69, R80,
R97). -/
def memWrite (u : AccessUnit) (a : Word) (v : Byte) (s : State) : Res State :=
  match region s.prod a with
  | .rom => refuse (.romWrite a)
  | .eeprom => refuse (.eepromWrite a)
  | .lcdRam | .ram => .ok (s.storeByte a v)
  | .sfr => sfrWrite u a v s
  | .pswSp => refuse (.pswSpAddress a)
  | .unmapped => refuse (.unmapped a)

/-- `MemRead(addr, 2)`: two byte reads, low byte at the lower address (20_memory.md R80, R81; for
`saddrp` the spec's own choice D3, log 15). -/
def memRead2 (a : Word) (s : State) : Res (Word × State) := do
  let (lo, s) ← memRead .word a s
  let (hi, s) ← memRead .word (a + 1#16) s
  return (join hi lo, s)

/-- `MemWrite(addr, 2, v)`: two byte writes, low byte at the lower address (20_memory.md R80,
R81). -/
def memWrite2 (a : Word) (v : Word) (s : State) : Res State := do
  let s ← memWrite .word a (loByte v) s
  memWrite .word (a + 1#16) (hiByte v) s

end Sys2Proof.Machine
end

