-- ==== Sys2Proof/Machine/Ops.lean ====
section
/-! DEFINITION. The named operations over registers, PSW, PC and the stack, and the two halves of
interrupt handling: the acknowledge sequence and the return from it. -/

namespace Sys2Proof.Machine

/-- What an operation answers as the outcome of a step. -/
def toOutcome : Res State → Out State
  | .ok s => .next s
  | .error (.fault r) => .fault r
  | .error (.refused r) => .refused r

/-! ### Registers (10_state.md R20, R21) -/

/-- `x[i]` (00_scope.md R11). -/
def Regs.get (g : Regs) : Reg → Byte
  | .x => g.x | .a => g.a | .c => g.c | .b => g.b
  | .e => g.e | .d => g.d | .l => g.l | .h => g.h

/-- `x[i] <- v` (00_scope.md R11). -/
def Regs.set (g : Regs) (r : Reg) (v : Byte) : Regs :=
  match r with
  | .x => { g with x := v } | .a => { g with a := v }
  | .c => { g with c := v } | .b => { g with b := v }
  | .e => { g with e := v } | .d => { g with d := v }
  | .l => { g with l := v } | .h => { g with h := v }

/-- The high half of a pair, the odd-numbered register (10_state.md R21). -/
def pairHigh : RegPair → Reg
  | .ax => .a | .bc => .b | .de => .d | .hl => .h

/-- The low half of a pair, the even-numbered register (10_state.md R21). -/
def pairLow : RegPair → Reg
  | .ax => .x | .bc => .c | .de => .e | .hl => .l

/-- A register of the state. -/
def State.reg (s : State) (r : Reg) : Byte := s.regs.get r

/-- The state with one register written. -/
def State.setReg (s : State) (r : Reg) (v : Byte) : State := { s with regs := s.regs.set r v }

/-- `xp[j]` (00_scope.md R11). -/
def State.pair (s : State) (p : RegPair) : Word := join (s.reg (pairHigh p)) (s.reg (pairLow p))

/-- `xp[j] <- v`: both halves (00_scope.md R11). -/
def State.setPair (s : State) (p : RegPair) (v : Word) : State :=
  (s.setReg (pairHigh p) (hiByte v)).setReg (pairLow p) (loByte v)

/-! ### PSW (10_state.md R25 to R31, R41) -/

/-- A flag of the state. -/
def State.flag (s : State) (f : Flag) : Bool := pswFlag s.psw f

/-- The state with one flag written, that bit and no other (R41). -/
def State.setFlag (s : State) (f : Flag) (v : Bool) : State :=
  { s with psw := pswSetFlag s.psw f v }

/-- The state with the flags of one of the eight operations (R31). -/
def State.setAlu (s : State) (r : AluResult) : State := { s with psw := pswAlu s.psw r }

/-- Whether bits 5, 3, 2, 1 of PSW are open: `PSW_FIXED` = open and PSW has been written as a byte
(R27). -/
def State.pswOpen (s : State) : Bool := s.prod.pswFixed == .open_ && s.pswByteWritten

/-- The flags of `v` with other bits taken from `rest`. -/
def withNonFlag (v rest : Byte) : Byte := (v &&& flagMask) ||| (rest &&& ~~~ flagMask)

/-- `psw_read()` (R41): the four flags, and the other four bits by R27: fixed, or `draw(1)` each
(log 2). -/
def pswRead (s : State) : Byte × State :=
  if s.pswOpen then (withNonFlag s.psw (Config.drawByte s.draws), s.drawn)
  else (withNonFlag s.psw nonFlagReset, s)

/-- `psw_write(v)` (R41): the four flags, and the other four bits by R27 (log 2). -/
def pswWrite (v : Byte) (s : State) : State :=
  match s.prod.pswFixed with
  | .hardwired => { s with psw := withNonFlag v nonFlagReset, pswByteWritten := true }
  | .open_ =>
    { s with
      psw := withNonFlag v (Config.drawByte s.draws)
      pswByteWritten := true
      draws := s.draws + 1 }

/-! ### PC and the end of an instruction -/

/-- `next`, the address after an instruction of `len` bytes, modulo 2^16 (10_state.md R24). -/
def State.next (s : State) (len : Nat) : Word := s.pc + BitVec.ofNat 16 len

/-- The end of an instruction: PC and the interrupt-hold marker (10_state.md R34). -/
def State.goTo (s : State) (target : Word) (hold : Bool) : State :=
  { s with pc := target, hold := hold }

/-- The end of an instruction that does not branch (10_state.md R24, R34). -/
def State.done (s : State) (len : Nat) : State := s.goTo (s.next len) false

/-- The end of one of the five instructions that set `hold` (10_state.md R34). -/
def State.doneHold (s : State) (len : Nat) : State := s.goTo (s.next len) true

/-- The end of a conditional relative branch: `next` plus the displacement, or `next`
(20_memory.md R90). -/
def State.branchIf (s : State) (taken : Bool) (len : Nat) (jd : Byte) : State :=
  s.goTo (if taken then s.next len + sext16 jd else s.next len) false

/-! ### The stack (20_memory.md R77, R98) -/

/-- `push8(v)` (R98). -/
def push8 (v : Byte) (s : State) : Res State :=
  let a := s.sp - 1#16
  if inStackRam s.prod a then memWrite .byte a v { s with sp := a }
  else refuse (.stackOutsideRam a)

/-- `pop8()` (R98). -/
def pop8 (s : State) : Res (Byte × State) :=
  if inStackRam s.prod s.sp then
    (memRead .byte s.sp s).map fun (v, t) => (v, { t with sp := t.sp + 1#16 })
  else refuse (.stackOutsideRam s.sp)

/-- Push a 16-bit value: upper byte first, so the lower byte lies lower (R77). -/
def push16 (v : Word) (s : State) : Res State := do
  let s ← push8 (hiByte v) s
  push8 (loByte v) s

/-- Pop a 16-bit value: lower byte first (R77). -/
def pop16 (s : State) : Res (Word × State) := do
  let (lo, s) ← pop8 s
  let (hi, s) ← pop8 s
  return (join hi lo, s)

/-! ### Taking an interrupt and returning from it -/

/-- `INT_CTRL.acknowledged(vector)`: the request is no longer pending, unless the platform keeps it
(60_exceptions.md R344; DESIGN CHOICE, unsafe, log 10). -/
def acknowledged (vector : Word) (keep : Bool) (l : List IntSource) : List IntSource :=
  if keep then l
  else l.map fun src => if src.vector = vector then { src with pending := false } else src

/-- The acknowledge sequence (60_exceptions.md R350): PSW, then PC, go on the stack, IE is cleared
after PSW is saved (D27, log 25), NMIS is set for a non-maskable request, PC is the vector's word,
the CPU leaves standby, `hold` is not written. -/
def acknowledge (vector : Word) (nmi keep : Bool) (s : State) : Res State := do
  let (p, s) := pswRead s
  let s ← push8 p s
  let s ← push16 s.pc s
  let s := s.setFlag .ie false
  let s := { s with nmis := s.nmis || nmi }
  let (target, s) ← memRead2 vector s
  return { s with pc := target, mode := .run, intc := acknowledged vector keep s.intc }

/-- The return from an interrupt, `RETI` (46_call_return.md R283): PC, then PSW, come off the
stack, NMIS is cleared, `hold` is set. -/
def interruptReturn (s : State) : Res State := do
  let (target, s) ← pop16 s
  let (p, s) ← pop8 s
  let s := pswWrite p s
  return ({ s with nmis := false }).goTo target true

end Sys2Proof.Machine
end

