-- ==== Sys2Proof/Machine/Operands.lean ====
section
/-! DEFINITION. Every operand form of the instruction set: the operand address functions of
20_memory.md R97 and the shapes that the instruction rules share. -/

namespace Sys2Proof.Machine

/-- `saddr_ea(o)` (20_memory.md R72). -/
def saddrEa (o : Byte) : Word := if 0x20#8 ≤ o then join 0xFE#8 o else join 0xFF#8 o

/-- `sfr_ea(o)` (20_memory.md R73). -/
def sfrEa (o : Byte) : Word := join 0xFF#8 o

/-- `ea_saddr(o)` (20_memory.md R97). -/
def eaSaddr (o : Byte) : Res Word :=
  if saddrOk o then .ok (saddrEa o) else refuse (.pswSpOffset o)

/-- `ea_saddrp(o)` (20_memory.md R97). 1CH never reaches here from the decoder, which answers the
SP form; it is refused like 1EH. -/
def eaSaddrp (o : Byte) : Res Word :=
  if o.getLsbD 0 then refuse (.oddSaddrp o)
  else if saddrpOk o then .ok (saddrEa o)
  else refuse (.pswSpOffset o)

/-- `ea_sfr(o)` (20_memory.md R97). -/
def eaSfr (o : Byte) : Res Word :=
  if 0xD0#8 ≤ o && o ≤ 0xDF#8 then refuse (.sfrOffset o)
  else if sfrOk o then .ok (sfrEa o)
  else refuse (.pswSpOffset o)

/-- `ea_de()` (20_memory.md R97). -/
def eaDe (s : State) : Word := s.pair .de

/-- `ea_hl()` (20_memory.md R97). -/
def eaHl (s : State) : Word := s.pair .hl

/-- `ea_hlb(d)`: the offset is unsigned, a carry out of bit 15 is ignored (20_memory.md R76). -/
def eaHlb (d : Byte) (s : State) : Word := s.pair .hl + zext16 d

/-! ### Shapes of the rules: `len` is the byte count of the form -/

/-- `x[1] <- MemRead(ea, 1)`. -/
def loadA (ea : Word) (len : Nat) (s : State) : Res State := do
  let (v, s) ← memRead .byte ea s
  return (s.setReg .a v).done len

/-- `MemWrite(ea, 1, v)`. -/
def storeAt (ea : Word) (v : Byte) (len : Nat) (s : State) : Res State := do
  let s ← memWrite .byte ea v s
  return s.done len

/-- `XCH A, mem` (40_data_transfer_8bit.md R162): read, write A, load A. -/
def xchA (ea : Word) (len : Nat) (s : State) : Res State := do
  let (v, s) ← memRead .byte ea s
  let s ← memWrite .byte ea (s.reg .a) s
  return (s.setReg .a v).done len

/-- One of the eight operations with A as destination (42_operation_8bit.md R236). -/
def aluA (op : AluOp) (src : Byte) (len : Nat) (s : State) : State :=
  let r := aluEval op (s.reg .a) src (s.flag .cy)
  ((if op.stores then s.setReg .a r.res else s).setAlu r).done len

/-- One of the eight operations on A and a memory byte (42_operation_8bit.md R236). -/
def aluMem (op : AluOp) (ea : Word) (len : Nat) (s : State) : Res State := do
  let (v, s) ← memRead .byte ea s
  return aluA op v len s

/-- A byte write, or none (42_operation_8bit.md R236: `CMP` does not store). -/
def writeIf (writes : Bool) (ea : Word) (v : Byte) (s : State) : Res State :=
  if writes then memWrite .byte ea v s else .ok s

/-- One of the eight operations on a memory byte and an immediate; `CMP` reads only
(42_operation_8bit.md R236, 20_memory.md R84). -/
def aluAt (op : AluOp) (ea : Word) (data : Byte) (len : Nat) (s : State) : Res State := do
  let (v, s) ← memRead .byte ea s
  let r := aluEval op v data (s.flag .cy)
  let s ← writeIf op.stores ea r.res s
  return (s.setAlu r).done len

/-- The flags of `INC` and `DEC`: Z and AC, CY kept (10_state.md R31). -/
def State.setZAc (s : State) (r : Arith8) : State := (s.setFlag .z r.z).setFlag .ac r.ac

/-- `INC` or `DEC` of a memory byte (44_incdec_rotate.md R246, R248). -/
def incDecAt (f : Byte → Arith8) (ea : Word) (len : Nat) (s : State) : Res State := do
  let (v, s) ← memRead .byte ea s
  let s ← memWrite .byte ea (f v).res s
  return (s.setZAc (f v)).done len

/-- The flags of `ADDW`, `SUBW`, `CMPW`: Z, CY, and AC a free value (43_operation_16bit.md R243,
log 14). -/
def State.setArith16 (s : State) (r : Arith16) : State :=
  (((s.setFlag .z r.z).setFlag .cy r.cy).setFlag .ac (Config.drawBit s.draws)).drawn

/-- A memory-bit form: one byte read, one bit changed, one byte written, with the 1-bit access unit
(45_bit_manipulation.md R273, log 22). -/
def modifyBitAt (f : Byte → Byte) (ea : Word) (len : Nat) (s : State) : Res State := do
  let (v, s) ← memRead .bit ea s
  let s ← memWrite .bit ea (f v) s
  return s.done len

/-- `BT` or `BF` of a memory bit: branch when the bit equals `want` (48_branch.md R307, R311). -/
def branchOnBitAt (want : Bool) (ea : Word) (b : BitVec 3) (len : Nat) (jd : Byte) (s : State) :
    Res State := do
  let (v, s) ← memRead .bit ea s
  return s.branchIf (testBit v b == want) len jd

/-- The flag a `PSW.bit` operand names, or the refusal of R274 (45_bit_manipulation.md, D21). -/
def pswBitFlag (b : BitVec 3) : Res Flag :=
  match flagOfBit b with
  | some f => .ok f
  | none => refuse (.nonFlagBit b)

end Sys2Proof.Machine
end

