-- ==== Sys2Proof/Machine/Alu16.lean ====
section
/-! DEFINITION. The meanings of `ADDW`, `SUBW`, `CMPW` (43_operation_16bit.md). -/

namespace Sys2Proof.Machine

/-- `ADDW AX, #word` (R240). AC is a free value (log 14). -/
def execAddwAxWord (word : Word) (s : State) : Out State :=
  let r := add16 (s.pair .ax) word
  .next (((s.setPair .ax r.res).setArith16 r).done 3)

/-- `SUBW AX, #word` (R241). AC is a free value (log 14). -/
def execSubwAxWord (word : Word) (s : State) : Out State :=
  let r := sub16 (s.pair .ax) word
  .next (((s.setPair .ax r.res).setArith16 r).done 3)

/-- `CMPW AX, #word` (R242). AC is a free value (log 14). -/
def execCmpwAxWord (word : Word) (s : State) : Out State :=
  .next ((s.setArith16 (sub16 (s.pair .ax) word)).done 3)

end Sys2Proof.Machine
end

