-- ==== Sys2Proof/Machine/Alu8.lean ====
section
/-! DEFINITION. The meanings of the eight 8-bit operations, seven operand forms each (42_operation_8bit.md). -/

namespace Sys2Proof.Machine

/-- `ADD A, #byte` (R180). -/
def execAddAByte (data : Byte) (s : State) : Out State :=
  .next (aluA .add data 2 s)

/-- `ADD saddr, #byte` (R181). -/
def execAddSaddrByte (so : Byte) (data : Byte) (s : State) : Out State :=
  toOutcome do aluAt .add (← eaSaddr so) data 3 s

/-- `ADD A, r` (R182). -/
def execAddAR (r : Reg) (s : State) : Out State :=
  .next (aluA .add (s.reg r) 2 s)

/-- `ADD A, saddr` (R183). -/
def execAddASaddr (so : Byte) (s : State) : Out State :=
  toOutcome do aluMem .add (← eaSaddr so) 2 s

/-- `ADD A, !addr16` (R184). -/
def execAddAAddr16 (addr : Word) (s : State) : Out State :=
  toOutcome (aluMem .add addr 3 s)

/-- `ADD A, [HL]` (R185). -/
def execAddAHl (s : State) : Out State :=
  toOutcome (aluMem .add (eaHl s) 1 s)

/-- `ADD A, [HL + byte]` (R186). -/
def execAddAHlb (data : Byte) (s : State) : Out State :=
  toOutcome (aluMem .add (eaHlb data s) 2 s)

/-- `ADDC A, #byte` (R187). -/
def execAddcAByte (data : Byte) (s : State) : Out State :=
  .next (aluA .addc data 2 s)

/-- `ADDC saddr, #byte` (R188). -/
def execAddcSaddrByte (so : Byte) (data : Byte) (s : State) : Out State :=
  toOutcome do aluAt .addc (← eaSaddr so) data 3 s

/-- `ADDC A, r` (R189). -/
def execAddcAR (r : Reg) (s : State) : Out State :=
  .next (aluA .addc (s.reg r) 2 s)

/-- `ADDC A, saddr` (R190). -/
def execAddcASaddr (so : Byte) (s : State) : Out State :=
  toOutcome do aluMem .addc (← eaSaddr so) 2 s

/-- `ADDC A, !addr16` (R191). -/
def execAddcAAddr16 (addr : Word) (s : State) : Out State :=
  toOutcome (aluMem .addc addr 3 s)

/-- `ADDC A, [HL]` (R192). -/
def execAddcAHl (s : State) : Out State :=
  toOutcome (aluMem .addc (eaHl s) 1 s)

/-- `ADDC A, [HL + byte]` (R193). -/
def execAddcAHlb (data : Byte) (s : State) : Out State :=
  toOutcome (aluMem .addc (eaHlb data s) 2 s)

/-- `SUB A, #byte` (R194). -/
def execSubAByte (data : Byte) (s : State) : Out State :=
  .next (aluA .sub data 2 s)

/-- `SUB saddr, #byte` (R195). -/
def execSubSaddrByte (so : Byte) (data : Byte) (s : State) : Out State :=
  toOutcome do aluAt .sub (← eaSaddr so) data 3 s

/-- `SUB A, r` (R196). -/
def execSubAR (r : Reg) (s : State) : Out State :=
  .next (aluA .sub (s.reg r) 2 s)

/-- `SUB A, saddr` (R197). -/
def execSubASaddr (so : Byte) (s : State) : Out State :=
  toOutcome do aluMem .sub (← eaSaddr so) 2 s

/-- `SUB A, !addr16` (R198). -/
def execSubAAddr16 (addr : Word) (s : State) : Out State :=
  toOutcome (aluMem .sub addr 3 s)

/-- `SUB A, [HL]` (R199). -/
def execSubAHl (s : State) : Out State :=
  toOutcome (aluMem .sub (eaHl s) 1 s)

/-- `SUB A, [HL + byte]` (R200). -/
def execSubAHlb (data : Byte) (s : State) : Out State :=
  toOutcome (aluMem .sub (eaHlb data s) 2 s)

/-- `SUBC A, #byte` (R201). -/
def execSubcAByte (data : Byte) (s : State) : Out State :=
  .next (aluA .subc data 2 s)

/-- `SUBC saddr, #byte` (R202). -/
def execSubcSaddrByte (so : Byte) (data : Byte) (s : State) : Out State :=
  toOutcome do aluAt .subc (← eaSaddr so) data 3 s

/-- `SUBC A, r` (R203). -/
def execSubcAR (r : Reg) (s : State) : Out State :=
  .next (aluA .subc (s.reg r) 2 s)

/-- `SUBC A, saddr` (R204). -/
def execSubcASaddr (so : Byte) (s : State) : Out State :=
  toOutcome do aluMem .subc (← eaSaddr so) 2 s

/-- `SUBC A, !addr16` (R205). -/
def execSubcAAddr16 (addr : Word) (s : State) : Out State :=
  toOutcome (aluMem .subc addr 3 s)

/-- `SUBC A, [HL]` (R206). -/
def execSubcAHl (s : State) : Out State :=
  toOutcome (aluMem .subc (eaHl s) 1 s)

/-- `SUBC A, [HL + byte]` (R207). -/
def execSubcAHlb (data : Byte) (s : State) : Out State :=
  toOutcome (aluMem .subc (eaHlb data s) 2 s)

/-- `AND A, #byte` (R208). -/
def execAndAByte (data : Byte) (s : State) : Out State :=
  .next (aluA .and data 2 s)

/-- `AND saddr, #byte` (R209). -/
def execAndSaddrByte (so : Byte) (data : Byte) (s : State) : Out State :=
  toOutcome do aluAt .and (← eaSaddr so) data 3 s

/-- `AND A, r` (R210). -/
def execAndAR (r : Reg) (s : State) : Out State :=
  .next (aluA .and (s.reg r) 2 s)

/-- `AND A, saddr` (R211). -/
def execAndASaddr (so : Byte) (s : State) : Out State :=
  toOutcome do aluMem .and (← eaSaddr so) 2 s

/-- `AND A, !addr16` (R212). -/
def execAndAAddr16 (addr : Word) (s : State) : Out State :=
  toOutcome (aluMem .and addr 3 s)

/-- `AND A, [HL]` (R213). -/
def execAndAHl (s : State) : Out State :=
  toOutcome (aluMem .and (eaHl s) 1 s)

/-- `AND A, [HL + byte]` (R214). -/
def execAndAHlb (data : Byte) (s : State) : Out State :=
  toOutcome (aluMem .and (eaHlb data s) 2 s)

/-- `OR A, #byte` (R215). -/
def execOrAByte (data : Byte) (s : State) : Out State :=
  .next (aluA .or data 2 s)

/-- `OR saddr, #byte` (R216). -/
def execOrSaddrByte (so : Byte) (data : Byte) (s : State) : Out State :=
  toOutcome do aluAt .or (← eaSaddr so) data 3 s

/-- `OR A, r` (R217). -/
def execOrAR (r : Reg) (s : State) : Out State :=
  .next (aluA .or (s.reg r) 2 s)

/-- `OR A, saddr` (R218). -/
def execOrASaddr (so : Byte) (s : State) : Out State :=
  toOutcome do aluMem .or (← eaSaddr so) 2 s

/-- `OR A, !addr16` (R219). -/
def execOrAAddr16 (addr : Word) (s : State) : Out State :=
  toOutcome (aluMem .or addr 3 s)

/-- `OR A, [HL]` (R220). -/
def execOrAHl (s : State) : Out State :=
  toOutcome (aluMem .or (eaHl s) 1 s)

/-- `OR A, [HL + byte]` (R221). -/
def execOrAHlb (data : Byte) (s : State) : Out State :=
  toOutcome (aluMem .or (eaHlb data s) 2 s)

/-- `XOR A, #byte` (R222). -/
def execXorAByte (data : Byte) (s : State) : Out State :=
  .next (aluA .xor data 2 s)

/-- `XOR saddr, #byte` (R223). -/
def execXorSaddrByte (so : Byte) (data : Byte) (s : State) : Out State :=
  toOutcome do aluAt .xor (← eaSaddr so) data 3 s

/-- `XOR A, r` (R224). -/
def execXorAR (r : Reg) (s : State) : Out State :=
  .next (aluA .xor (s.reg r) 2 s)

/-- `XOR A, saddr` (R225). -/
def execXorASaddr (so : Byte) (s : State) : Out State :=
  toOutcome do aluMem .xor (← eaSaddr so) 2 s

/-- `XOR A, !addr16` (R226). -/
def execXorAAddr16 (addr : Word) (s : State) : Out State :=
  toOutcome (aluMem .xor addr 3 s)

/-- `XOR A, [HL]` (R227). -/
def execXorAHl (s : State) : Out State :=
  toOutcome (aluMem .xor (eaHl s) 1 s)

/-- `XOR A, [HL + byte]` (R228). -/
def execXorAHlb (data : Byte) (s : State) : Out State :=
  toOutcome (aluMem .xor (eaHlb data s) 2 s)

/-- `CMP A, #byte` (R229). -/
def execCmpAByte (data : Byte) (s : State) : Out State :=
  .next (aluA .cmp data 2 s)

/-- `CMP saddr, #byte` (R230). -/
def execCmpSaddrByte (so : Byte) (data : Byte) (s : State) : Out State :=
  toOutcome do aluAt .cmp (← eaSaddr so) data 3 s

/-- `CMP A, r` (R231). -/
def execCmpAR (r : Reg) (s : State) : Out State :=
  .next (aluA .cmp (s.reg r) 2 s)

/-- `CMP A, saddr` (R232). -/
def execCmpASaddr (so : Byte) (s : State) : Out State :=
  toOutcome do aluMem .cmp (← eaSaddr so) 2 s

/-- `CMP A, !addr16` (R233). -/
def execCmpAAddr16 (addr : Word) (s : State) : Out State :=
  toOutcome (aluMem .cmp addr 3 s)

/-- `CMP A, [HL]` (R234). -/
def execCmpAHl (s : State) : Out State :=
  toOutcome (aluMem .cmp (eaHl s) 1 s)

/-- `CMP A, [HL + byte]` (R235). -/
def execCmpAHlb (data : Byte) (s : State) : Out State :=
  toOutcome (aluMem .cmp (eaHlb data s) 2 s)

end Sys2Proof.Machine
end

