-- ==== Sys2Proof/Machine/BitManip.lean ====
section
/-! DEFINITION. The meanings of bit manipulation: `SET1`, `CLR1`, `NOT1` (45_bit_manipulation.md). -/

namespace Sys2Proof.Machine

/-- `SET1 saddr.bit` (R260). -/
def execSet1Saddr (b : BitVec 3) (so : Byte) (s : State) : Out State :=
  toOutcome do modifyBitAt (setBit · b) (← eaSaddr so) 3 s

/-- `SET1 sfr.bit` (R261). -/
def execSet1Sfr (b : BitVec 3) (fo : Byte) (s : State) : Out State :=
  toOutcome do modifyBitAt (setBit · b) (← eaSfr fo) 3 s

/-- `SET1 A.bit` (R262). -/
def execSet1A (b : BitVec 3) (s : State) : Out State :=
  .next ((s.setReg .a (setBit (s.reg .a) b)).done 2)

/-- `SET1 PSW.bit` (R263). Bit 7 is `EI`. -/
def execSet1Psw (b : BitVec 3) (s : State) : Out State :=
  toOutcome do return (s.setFlag (← pswBitFlag b) true).done 3

/-- `SET1 [HL].bit` (R264). -/
def execSet1Hl (b : BitVec 3) (s : State) : Out State :=
  toOutcome (modifyBitAt (setBit · b) (eaHl s) 2 s)

/-- `CLR1 saddr.bit` (R265). -/
def execClr1Saddr (b : BitVec 3) (so : Byte) (s : State) : Out State :=
  toOutcome do modifyBitAt (clearBit · b) (← eaSaddr so) 3 s

/-- `CLR1 sfr.bit` (R266). -/
def execClr1Sfr (b : BitVec 3) (fo : Byte) (s : State) : Out State :=
  toOutcome do modifyBitAt (clearBit · b) (← eaSfr fo) 3 s

/-- `CLR1 A.bit` (R267). -/
def execClr1A (b : BitVec 3) (s : State) : Out State :=
  .next ((s.setReg .a (clearBit (s.reg .a) b)).done 2)

/-- `CLR1 PSW.bit` (R268). Bit 7 is `DI`, which sets `hold`. -/
def execClr1Psw (b : BitVec 3) (s : State) : Out State :=
  toOutcome do
    let f ← pswBitFlag b
    return (s.setFlag f false).goTo (s.next 3) (decide (b = 7#3))

/-- `CLR1 [HL].bit` (R269). -/
def execClr1Hl (b : BitVec 3) (s : State) : Out State :=
  toOutcome (modifyBitAt (clearBit · b) (eaHl s) 2 s)

/-- `SET1 CY` (R270). -/
def execSet1Cy (s : State) : Out State :=
  .next ((s.setFlag .cy true).done 1)

/-- `CLR1 CY` (R271). -/
def execClr1Cy (s : State) : Out State :=
  .next ((s.setFlag .cy false).done 1)

/-- `NOT1 CY` (R272). -/
def execNot1Cy (s : State) : Out State :=
  .next ((s.setFlag .cy (!s.flag .cy)).done 1)

end Sys2Proof.Machine
end

