-- ==== Sys2Proof/Machine/Branch.lean ====
section
/-! DEFINITION. The meanings of unconditional and conditional branch (48_branch.md). -/

namespace Sys2Proof.Machine

/-- `BR !addr16` (R300). -/
def execBrAddr16 (addr : Word) (s : State) : Out State :=
  .next (s.goTo addr false)

/-- `BR $addr16` (R301). -/
def execBrRel (jd : Byte) (s : State) : Out State :=
  .next (s.branchIf true 2 jd)

/-- `BR AX` (R302). -/
def execBrAx (s : State) : Out State :=
  .next (s.goTo (s.pair .ax) false)

/-- `BC $addr16` (R303). -/
def execBc (jd : Byte) (s : State) : Out State :=
  .next (s.branchIf (s.flag .cy) 2 jd)

/-- `BNC $addr16` (R304). -/
def execBnc (jd : Byte) (s : State) : Out State :=
  .next (s.branchIf (!s.flag .cy) 2 jd)

/-- `BZ $addr16` (R305). -/
def execBz (jd : Byte) (s : State) : Out State :=
  .next (s.branchIf (s.flag .z) 2 jd)

/-- `BNZ $addr16` (R306). -/
def execBnz (jd : Byte) (s : State) : Out State :=
  .next (s.branchIf (!s.flag .z) 2 jd)

/-- `BT saddr.bit, $addr16` (R307). -/
def execBtSaddr (b : BitVec 3) (so : Byte) (jd : Byte) (s : State) : Out State :=
  toOutcome do branchOnBitAt true (← eaSaddr so) b 4 jd s

/-- `BT sfr.bit, $addr16` (R308). -/
def execBtSfr (b : BitVec 3) (fo : Byte) (jd : Byte) (s : State) : Out State :=
  toOutcome do branchOnBitAt true (← eaSfr fo) b 4 jd s

/-- `BT A.bit, $addr16` (R309). -/
def execBtA (b : BitVec 3) (jd : Byte) (s : State) : Out State :=
  .next (s.branchIf (testBit (s.reg .a) b == true) 3 jd)

/-- `BT PSW.bit, $addr16` (R310). -/
def execBtPsw (b : BitVec 3) (jd : Byte) (s : State) : Out State :=
  toOutcome do
    let f ← pswBitFlag b
    return s.branchIf (s.flag f == true) 4 jd

/-- `BF saddr.bit, $addr16` (R311). -/
def execBfSaddr (b : BitVec 3) (so : Byte) (jd : Byte) (s : State) : Out State :=
  toOutcome do branchOnBitAt false (← eaSaddr so) b 4 jd s

/-- `BF sfr.bit, $addr16` (R312). -/
def execBfSfr (b : BitVec 3) (fo : Byte) (jd : Byte) (s : State) : Out State :=
  toOutcome do branchOnBitAt false (← eaSfr fo) b 4 jd s

/-- `BF A.bit, $addr16` (R313). -/
def execBfA (b : BitVec 3) (jd : Byte) (s : State) : Out State :=
  .next (s.branchIf (testBit (s.reg .a) b == false) 3 jd)

/-- `BF PSW.bit, $addr16` (R314). -/
def execBfPsw (b : BitVec 3) (jd : Byte) (s : State) : Out State :=
  toOutcome do
    let f ← pswBitFlag b
    return s.branchIf (s.flag f == false) 4 jd

/-- `DBNZ B, $addr16` (R315). -/
def execDbnzB (jd : Byte) (s : State) : Out State :=
  let v := s.reg .b - 1#8
  .next ((s.setReg .b v).branchIf (v != 0#8) 2 jd)

/-- `DBNZ C, $addr16` (R316). -/
def execDbnzC (jd : Byte) (s : State) : Out State :=
  let v := s.reg .c - 1#8
  .next ((s.setReg .c v).branchIf (v != 0#8) 2 jd)

/-- `DBNZ saddr, $addr16` (R317). -/
def execDbnzSaddr (so : Byte) (jd : Byte) (s : State) : Out State :=
  toOutcome do
    let ea ← eaSaddr so
    let (v, s) ← memRead .byte ea s
    let s ← memWrite .byte ea (v - 1#8) s
    return s.branchIf (v - 1#8 != 0#8) 3 jd

end Sys2Proof.Machine
end

