-- ==== Sys2Proof/Machine/CallReturn.lean ====
section
/-! DEFINITION. The meanings of call and return (46_call_return.md). -/

namespace Sys2Proof.Machine

/-- The CALLT table entry of an index, 0040H + 2t (46_call_return.md R281, 20_memory.md R92). -/
def calltEntry (t : BitVec 5) : Word := 0x0040#16 + 2#16 * t.zeroExtend 16

/-- `CALL !addr16` (R280). -/
def execCallAddr16 (addr : Word) (s : State) : Out State :=
  toOutcome do
    let s ← push16 (s.next 3) s
    return s.goTo addr false

/-- `CALLT [addr5]` (R281). -/
def execCallt (t : BitVec 5) (s : State) : Out State :=
  toOutcome do
    let (target, s) ← memRead2 (calltEntry t) s
    let s ← push16 (s.next 1) s
    return s.goTo target false

/-- `RET` (R282). -/
def execRet (s : State) : Out State :=
  toOutcome do
    let (target, s) ← pop16 s
    return s.goTo target false

/-- `RETI` (R283). -/
def execReti (s : State) : Out State :=
  toOutcome (interruptReturn s)

end Sys2Proof.Machine
end

