-- ==== Sys2Proof/Machine/Control.lean ====
section
/-! DEFINITION. The meanings of CPU control: `NOP`, `EI`, `DI`, `HALT`, `STOP` (49_cpu_control.md). -/

namespace Sys2Proof.Machine

/-- The state with the standby mode written. -/
def State.setMode (s : State) (m : Mode) : State := { s with mode := m }

/-- `NOP` (R325). -/
def execNop (s : State) : Out State :=
  .next (s.done 1)

/-- `EI` (R326). -/
def execEi (s : State) : Out State :=
  .next ((s.setFlag .ie true).done 3)

/-- `DI` (R327). -/
def execDi (s : State) : Out State :=
  .next ((s.setFlag .ie false).doneHold 3)

/-- `HALT` (R328). What else the mode stops is the platform's (log 26). -/
def execHalt (s : State) : Out State :=
  .next ((s.setMode .halt).done 1)

/-- `STOP` (R329). What else the mode stops is the platform's (log 26). -/
def execStop (s : State) : Out State :=
  .next ((s.setMode .stop).done 1)

end Sys2Proof.Machine
end

