-- ==== Sys2Proof/Machine/IncDecRotate.lean ====
section
/-! DEFINITION. The meanings of increment, decrement and rotate (44_incdec_rotate.md). -/

namespace Sys2Proof.Machine

/-- Bits 7..1 moved down one, `top` into bit 7 (44_incdec_rotate.md R251, R253). -/
def rotateDown (top : Bool) (v : Byte) : Byte := (BitVec.ofBool top ++ v.extractLsb' 1 7 : BitVec 8)

/-- Bits 6..0 moved up one, `bottom` into bit 0 (44_incdec_rotate.md R252, R254). -/
def rotateUp (bottom : Bool) (v : Byte) : Byte := (v.extractLsb' 0 7 ++ BitVec.ofBool bottom : BitVec 8)

/-- `INC r` (R245). -/
def execIncR (r : Reg) (s : State) : Out State :=
  let v := add8 (s.reg r) 1#8 false
  .next (((s.setReg r v.res).setZAc v).done 2)

/-- `INC saddr` (R246). -/
def execIncSaddr (so : Byte) (s : State) : Out State :=
  toOutcome do incDecAt (fun v => add8 v 1#8 false) (← eaSaddr so) 2 s

/-- `DEC r` (R247). -/
def execDecR (r : Reg) (s : State) : Out State :=
  let v := sub8 (s.reg r) 1#8 false
  .next (((s.setReg r v.res).setZAc v).done 2)

/-- `DEC saddr` (R248). -/
def execDecSaddr (so : Byte) (s : State) : Out State :=
  toOutcome do incDecAt (fun v => sub8 v 1#8 false) (← eaSaddr so) 2 s

/-- `INCW rp` (R249). -/
def execIncwRp (rp : RegPair) (s : State) : Out State :=
  .next ((s.setPair rp (s.pair rp + 1#16)).done 1)

/-- `DECW rp` (R250). -/
def execDecwRp (rp : RegPair) (s : State) : Out State :=
  .next ((s.setPair rp (s.pair rp - 1#16)).done 1)

/-- `ROR A, 1` (R251). -/
def execRor (s : State) : Out State :=
  let a := s.reg .a
  .next (((s.setReg .a (rotateDown (a.getLsbD 0) a)).setFlag .cy (a.getLsbD 0)).done 1)

/-- `ROL A, 1` (R252). -/
def execRol (s : State) : Out State :=
  let a := s.reg .a
  .next (((s.setReg .a (rotateUp (a.getLsbD 7) a)).setFlag .cy (a.getLsbD 7)).done 1)

/-- `RORC A, 1` (R253). -/
def execRorc (s : State) : Out State :=
  let a := s.reg .a
  .next (((s.setReg .a (rotateDown (s.flag .cy) a)).setFlag .cy (a.getLsbD 0)).done 1)

/-- `ROLC A, 1` (R254). -/
def execRolc (s : State) : Out State :=
  let a := s.reg .a
  .next (((s.setReg .a (rotateUp (s.flag .cy) a)).setFlag .cy (a.getLsbD 7)).done 1)

end Sys2Proof.Machine
end

