-- ==== Sys2Proof/Machine/Stack.lean ====
section
/-! DEFINITION. The meanings of stack manipulation: `PUSH`, `POP`, `MOVW` with SP (47_stack.md). -/

namespace Sys2Proof.Machine

/-- The state with SP written. -/
def State.setSp (s : State) (v : Word) : State := { s with sp := v }

/-- `PUSH PSW` (R290). -/
def execPushPsw (s : State) : Out State :=
  toOutcome do
    let (p, s) := pswRead s
    let s ← push8 p s
    return s.done 1

/-- `PUSH rp` (R291). -/
def execPushRp (rp : RegPair) (s : State) : Out State :=
  toOutcome do
    let s ← push16 (s.pair rp) s
    return s.done 1

/-- `POP PSW` (R292). -/
def execPopPsw (s : State) : Out State :=
  toOutcome do
    let (v, s) ← pop8 s
    return (pswWrite v s).doneHold 1

/-- `POP rp` (R293). -/
def execPopRp (rp : RegPair) (s : State) : Out State :=
  toOutcome do
    let (v, s) ← pop16 s
    return (s.setPair rp v).done 1

/-- `MOVW SP, AX` (R294). -/
def execMovwSpAx (s : State) : Out State :=
  .next ((s.setSp (s.pair .ax)).done 2)

/-- `MOVW AX, SP` (R295). -/
def execMovwAxSp (s : State) : Out State :=
  .next ((s.setPair .ax s.sp).done 2)

end Sys2Proof.Machine
end

