-- ==== Sys2Proof/Machine/Transfer16.lean ====
section
/-! DEFINITION. The meanings of 16-bit data transfer: `MOVW` and `XCHW` (41_data_transfer_16bit.md). -/

namespace Sys2Proof.Machine

/-- `MOVW rp, #word` (R170). -/
def execMovwRpWord (rp : RegPair) (word : Word) (s : State) : Out State :=
  .next ((s.setPair rp word).done 3)

/-- `MOVW AX, saddrp` (R171). Low byte to X: the spec's own choice D3 (log 15). -/
def execMovwAxSaddrp (so : Byte) (s : State) : Out State :=
  toOutcome do
    let (v, s) ← memRead2 (← eaSaddrp so) s
    return (s.setPair .ax v).done 2

/-- `MOVW saddrp, AX` (R172). X to the low byte: the spec's own choice D3 (log 15). -/
def execMovwSaddrpAx (so : Byte) (s : State) : Out State :=
  toOutcome do
    let s ← memWrite2 (← eaSaddrp so) (s.pair .ax) s
    return s.done 2

/-- `MOVW AX, rp` (R173). -/
def execMovwAxRp (rp : RegPair) (s : State) : Out State :=
  .next ((s.setPair .ax (s.pair rp)).done 1)

/-- `MOVW rp, AX` (R174). -/
def execMovwRpAx (rp : RegPair) (s : State) : Out State :=
  .next ((s.setPair rp (s.pair .ax)).done 1)

/-- `XCHW AX, rp` (R175). -/
def execXchwAxRp (rp : RegPair) (s : State) : Out State :=
  .next (((s.setPair .ax (s.pair rp)).setPair rp (s.pair .ax)).done 1)

end Sys2Proof.Machine
end

