-- ==== Sys2Proof/Machine/Transfer8.lean ====
section
/-! DEFINITION. The meanings of 8-bit data transfer: `MOV` and `XCH` (40_data_transfer_8bit.md). -/

namespace Sys2Proof.Machine

/-- `MOV r, #byte` (R140). Its code is PRESUMED by the spec (log 21). -/
def execMovRByte (r : Reg) (data : Byte) (s : State) : Out State :=
  .next ((s.setReg r data).done 3)

/-- `MOV saddr, #byte` (R141). -/
def execMovSaddrByte (so : Byte) (data : Byte) (s : State) : Out State :=
  toOutcome do storeAt (← eaSaddr so) data 3 s

/-- `MOV sfr, #byte` (R142). -/
def execMovSfrByte (fo : Byte) (data : Byte) (s : State) : Out State :=
  toOutcome do storeAt (← eaSfr fo) data 3 s

/-- `MOV A, r` (R143). -/
def execMovAR (r : Reg) (s : State) : Out State :=
  .next ((s.setReg .a (s.reg r)).done 2)

/-- `MOV r, A` (R144). -/
def execMovRA (r : Reg) (s : State) : Out State :=
  .next ((s.setReg r (s.reg .a)).done 2)

/-- `MOV A, saddr` (R145). -/
def execMovASaddr (so : Byte) (s : State) : Out State :=
  toOutcome do loadA (← eaSaddr so) 2 s

/-- `MOV saddr, A` (R146). -/
def execMovSaddrA (so : Byte) (s : State) : Out State :=
  toOutcome do storeAt (← eaSaddr so) (s.reg .a) 2 s

/-- `MOV A, sfr` (R147). -/
def execMovASfr (fo : Byte) (s : State) : Out State :=
  toOutcome do loadA (← eaSfr fo) 2 s

/-- `MOV sfr, A` (R148). -/
def execMovSfrA (fo : Byte) (s : State) : Out State :=
  toOutcome do storeAt (← eaSfr fo) (s.reg .a) 2 s

/-- `MOV A, !addr16` (R149). -/
def execMovAAddr16 (addr : Word) (s : State) : Out State :=
  toOutcome (loadA addr 3 s)

/-- `MOV !addr16, A` (R150). -/
def execMovAddr16A (addr : Word) (s : State) : Out State :=
  toOutcome (storeAt addr (s.reg .a) 3 s)

/-- `MOV PSW, #byte` (R151). -/
def execMovPswByte (data : Byte) (s : State) : Out State :=
  .next ((pswWrite data s).doneHold 3)

/-- `MOV A, PSW` (R152). -/
def execMovAPsw (s : State) : Out State :=
  let (v, s) := pswRead s
  .next ((s.setReg .a v).done 2)

/-- `MOV PSW, A` (R153). -/
def execMovPswA (s : State) : Out State :=
  .next ((pswWrite (s.reg .a) s).doneHold 2)

/-- `MOV A, [DE]` (R154). -/
def execMovADe (s : State) : Out State :=
  toOutcome (loadA (eaDe s) 1 s)

/-- `MOV [DE], A` (R155). -/
def execMovDeA (s : State) : Out State :=
  toOutcome (storeAt (eaDe s) (s.reg .a) 1 s)

/-- `MOV A, [HL]` (R156). -/
def execMovAHl (s : State) : Out State :=
  toOutcome (loadA (eaHl s) 1 s)

/-- `MOV [HL], A` (R157). -/
def execMovHlA (s : State) : Out State :=
  toOutcome (storeAt (eaHl s) (s.reg .a) 1 s)

/-- `MOV A, [HL + byte]` (R158). -/
def execMovAHlb (data : Byte) (s : State) : Out State :=
  toOutcome (loadA (eaHlb data s) 2 s)

/-- `MOV [HL + byte], A` (R159). -/
def execMovHlbA (data : Byte) (s : State) : Out State :=
  toOutcome (storeAt (eaHlb data s) (s.reg .a) 2 s)

/-- `XCH A, X` (R160). -/
def execXchAX (s : State) : Out State :=
  .next (((s.setReg .a (s.reg .x)).setReg .x (s.reg .a)).done 1)

/-- `XCH A, r` (R161). -/
def execXchAR (r : Reg) (s : State) : Out State :=
  .next (((s.setReg .a (s.reg r)).setReg r (s.reg .a)).done 2)

/-- `XCH A, saddr` (R162). -/
def execXchASaddr (so : Byte) (s : State) : Out State :=
  toOutcome do xchA (← eaSaddr so) 2 s

/-- `XCH A, sfr` (R163). -/
def execXchASfr (fo : Byte) (s : State) : Out State :=
  toOutcome do xchA (← eaSfr fo) 2 s

/-- `XCH A, [DE]` (R164). -/
def execXchADe (s : State) : Out State :=
  toOutcome (xchA (eaDe s) 1 s)

/-- `XCH A, [HL]` (R165). -/
def execXchAHl (s : State) : Out State :=
  toOutcome (xchA (eaHl s) 1 s)

/-- `XCH A, [HL + byte]` (R166). -/
def execXchAHlb (data : Byte) (s : State) : Out State :=
  toOutcome (xchA (eaHlb data s) 2 s)

end Sys2Proof.Machine
end

