-- ==== Sys2Proof/Machine/Dispatch.lean ====
section
/-! DEFINITION. Which meaning each instruction runs: one arm per constructor of `Instr`, in the order of
spec/opcode_table.json. -/

namespace Sys2Proof.Machine

def exec (i : Instr) (s : State) : Host.Outcome State Fault Refusal :=
  match i with
  | .movRByte r data => Sys2Proof.Machine.execMovRByte r data s
  | .movSaddrByte so data => Sys2Proof.Machine.execMovSaddrByte so data s
  | .movSfrByte fo data => Sys2Proof.Machine.execMovSfrByte fo data s
  | .movAR r => Sys2Proof.Machine.execMovAR r s
  | .movRA r => Sys2Proof.Machine.execMovRA r s
  | .movASaddr so => Sys2Proof.Machine.execMovASaddr so s
  | .movSaddrA so => Sys2Proof.Machine.execMovSaddrA so s
  | .movASfr fo => Sys2Proof.Machine.execMovASfr fo s
  | .movSfrA fo => Sys2Proof.Machine.execMovSfrA fo s
  | .movAAddr16 addr => Sys2Proof.Machine.execMovAAddr16 addr s
  | .movAddr16A addr => Sys2Proof.Machine.execMovAddr16A addr s
  | .movPswByte data => Sys2Proof.Machine.execMovPswByte data s
  | .movAPsw => Sys2Proof.Machine.execMovAPsw s
  | .movPswA => Sys2Proof.Machine.execMovPswA s
  | .movADe => Sys2Proof.Machine.execMovADe s
  | .movDeA => Sys2Proof.Machine.execMovDeA s
  | .movAHl => Sys2Proof.Machine.execMovAHl s
  | .movHlA => Sys2Proof.Machine.execMovHlA s
  | .movAHlb data => Sys2Proof.Machine.execMovAHlb data s
  | .movHlbA data => Sys2Proof.Machine.execMovHlbA data s
  | .xchAX => Sys2Proof.Machine.execXchAX s
  | .xchAR r => Sys2Proof.Machine.execXchAR r s
  | .xchASaddr so => Sys2Proof.Machine.execXchASaddr so s
  | .xchASfr fo => Sys2Proof.Machine.execXchASfr fo s
  | .xchADe => Sys2Proof.Machine.execXchADe s
  | .xchAHl => Sys2Proof.Machine.execXchAHl s
  | .xchAHlb data => Sys2Proof.Machine.execXchAHlb data s
  | .movwRpWord rp word => Sys2Proof.Machine.execMovwRpWord rp word s
  | .movwAxSaddrp so => Sys2Proof.Machine.execMovwAxSaddrp so s
  | .movwSaddrpAx so => Sys2Proof.Machine.execMovwSaddrpAx so s
  | .movwAxRp rp => Sys2Proof.Machine.execMovwAxRp rp s
  | .movwRpAx rp => Sys2Proof.Machine.execMovwRpAx rp s
  | .xchwAxRp rp => Sys2Proof.Machine.execXchwAxRp rp s
  | .addAByte data => Sys2Proof.Machine.execAddAByte data s
  | .addSaddrByte so data => Sys2Proof.Machine.execAddSaddrByte so data s
  | .addAR r => Sys2Proof.Machine.execAddAR r s
  | .addASaddr so => Sys2Proof.Machine.execAddASaddr so s
  | .addAAddr16 addr => Sys2Proof.Machine.execAddAAddr16 addr s
  | .addAHl => Sys2Proof.Machine.execAddAHl s
  | .addAHlb data => Sys2Proof.Machine.execAddAHlb data s
  | .addcAByte data => Sys2Proof.Machine.execAddcAByte data s
  | .addcSaddrByte so data => Sys2Proof.Machine.execAddcSaddrByte so data s
  | .addcAR r => Sys2Proof.Machine.execAddcAR r s
  | .addcASaddr so => Sys2Proof.Machine.execAddcASaddr so s
  | .addcAAddr16 addr => Sys2Proof.Machine.execAddcAAddr16 addr s
  | .addcAHl => Sys2Proof.Machine.execAddcAHl s
  | .addcAHlb data => Sys2Proof.Machine.execAddcAHlb data s
  | .subAByte data => Sys2Proof.Machine.execSubAByte data s
  | .subSaddrByte so data => Sys2Proof.Machine.execSubSaddrByte so data s
  | .subAR r => Sys2Proof.Machine.execSubAR r s
  | .subASaddr so => Sys2Proof.Machine.execSubASaddr so s
  | .subAAddr16 addr => Sys2Proof.Machine.execSubAAddr16 addr s
  | .subAHl => Sys2Proof.Machine.execSubAHl s
  | .subAHlb data => Sys2Proof.Machine.execSubAHlb data s
  | .subcAByte data => Sys2Proof.Machine.execSubcAByte data s
  | .subcSaddrByte so data => Sys2Proof.Machine.execSubcSaddrByte so data s
  | .subcAR r => Sys2Proof.Machine.execSubcAR r s
  | .subcASaddr so => Sys2Proof.Machine.execSubcASaddr so s
  | .subcAAddr16 addr => Sys2Proof.Machine.execSubcAAddr16 addr s
  | .subcAHl => Sys2Proof.Machine.execSubcAHl s
  | .subcAHlb data => Sys2Proof.Machine.execSubcAHlb data s
  | .andAByte data => Sys2Proof.Machine.execAndAByte data s
  | .andSaddrByte so data => Sys2Proof.Machine.execAndSaddrByte so data s
  | .andAR r => Sys2Proof.Machine.execAndAR r s
  | .andASaddr so => Sys2Proof.Machine.execAndASaddr so s
  | .andAAddr16 addr => Sys2Proof.Machine.execAndAAddr16 addr s
  | .andAHl => Sys2Proof.Machine.execAndAHl s
  | .andAHlb data => Sys2Proof.Machine.execAndAHlb data s
  | .orAByte data => Sys2Proof.Machine.execOrAByte data s
  | .orSaddrByte so data => Sys2Proof.Machine.execOrSaddrByte so data s
  | .orAR r => Sys2Proof.Machine.execOrAR r s
  | .orASaddr so => Sys2Proof.Machine.execOrASaddr so s
  | .orAAddr16 addr => Sys2Proof.Machine.execOrAAddr16 addr s
  | .orAHl => Sys2Proof.Machine.execOrAHl s
  | .orAHlb data => Sys2Proof.Machine.execOrAHlb data s
  | .xorAByte data => Sys2Proof.Machine.execXorAByte data s
  | .xorSaddrByte so data => Sys2Proof.Machine.execXorSaddrByte so data s
  | .xorAR r => Sys2Proof.Machine.execXorAR r s
  | .xorASaddr so => Sys2Proof.Machine.execXorASaddr so s
  | .xorAAddr16 addr => Sys2Proof.Machine.execXorAAddr16 addr s
  | .xorAHl => Sys2Proof.Machine.execXorAHl s
  | .xorAHlb data => Sys2Proof.Machine.execXorAHlb data s
  | .cmpAByte data => Sys2Proof.Machine.execCmpAByte data s
  | .cmpSaddrByte so data => Sys2Proof.Machine.execCmpSaddrByte so data s
  | .cmpAR r => Sys2Proof.Machine.execCmpAR r s
  | .cmpASaddr so => Sys2Proof.Machine.execCmpASaddr so s
  | .cmpAAddr16 addr => Sys2Proof.Machine.execCmpAAddr16 addr s
  | .cmpAHl => Sys2Proof.Machine.execCmpAHl s
  | .cmpAHlb data => Sys2Proof.Machine.execCmpAHlb data s
  | .addwAxWord word => Sys2Proof.Machine.execAddwAxWord word s
  | .subwAxWord word => Sys2Proof.Machine.execSubwAxWord word s
  | .cmpwAxWord word => Sys2Proof.Machine.execCmpwAxWord word s
  | .incR r => Sys2Proof.Machine.execIncR r s
  | .incSaddr so => Sys2Proof.Machine.execIncSaddr so s
  | .decR r => Sys2Proof.Machine.execDecR r s
  | .decSaddr so => Sys2Proof.Machine.execDecSaddr so s
  | .incwRp rp => Sys2Proof.Machine.execIncwRp rp s
  | .decwRp rp => Sys2Proof.Machine.execDecwRp rp s
  | .ror => Sys2Proof.Machine.execRor s
  | .rol => Sys2Proof.Machine.execRol s
  | .rorc => Sys2Proof.Machine.execRorc s
  | .rolc => Sys2Proof.Machine.execRolc s
  | .set1Saddr b so => Sys2Proof.Machine.execSet1Saddr b so s
  | .set1Sfr b fo => Sys2Proof.Machine.execSet1Sfr b fo s
  | .set1A b => Sys2Proof.Machine.execSet1A b s
  | .set1Psw b => Sys2Proof.Machine.execSet1Psw b s
  | .set1Hl b => Sys2Proof.Machine.execSet1Hl b s
  | .clr1Saddr b so => Sys2Proof.Machine.execClr1Saddr b so s
  | .clr1Sfr b fo => Sys2Proof.Machine.execClr1Sfr b fo s
  | .clr1A b => Sys2Proof.Machine.execClr1A b s
  | .clr1Psw b => Sys2Proof.Machine.execClr1Psw b s
  | .clr1Hl b => Sys2Proof.Machine.execClr1Hl b s
  | .set1Cy => Sys2Proof.Machine.execSet1Cy s
  | .clr1Cy => Sys2Proof.Machine.execClr1Cy s
  | .not1Cy => Sys2Proof.Machine.execNot1Cy s
  | .callAddr16 addr => Sys2Proof.Machine.execCallAddr16 addr s
  | .callt t => Sys2Proof.Machine.execCallt t s
  | .ret => Sys2Proof.Machine.execRet s
  | .reti => Sys2Proof.Machine.execReti s
  | .pushPsw => Sys2Proof.Machine.execPushPsw s
  | .pushRp rp => Sys2Proof.Machine.execPushRp rp s
  | .popPsw => Sys2Proof.Machine.execPopPsw s
  | .popRp rp => Sys2Proof.Machine.execPopRp rp s
  | .movwSpAx => Sys2Proof.Machine.execMovwSpAx s
  | .movwAxSp => Sys2Proof.Machine.execMovwAxSp s
  | .brAddr16 addr => Sys2Proof.Machine.execBrAddr16 addr s
  | .brRel jd => Sys2Proof.Machine.execBrRel jd s
  | .brAx => Sys2Proof.Machine.execBrAx s
  | .bc jd => Sys2Proof.Machine.execBc jd s
  | .bnc jd => Sys2Proof.Machine.execBnc jd s
  | .bz jd => Sys2Proof.Machine.execBz jd s
  | .bnz jd => Sys2Proof.Machine.execBnz jd s
  | .btSaddr b so jd => Sys2Proof.Machine.execBtSaddr b so jd s
  | .btSfr b fo jd => Sys2Proof.Machine.execBtSfr b fo jd s
  | .btA b jd => Sys2Proof.Machine.execBtA b jd s
  | .btPsw b jd => Sys2Proof.Machine.execBtPsw b jd s
  | .bfSaddr b so jd => Sys2Proof.Machine.execBfSaddr b so jd s
  | .bfSfr b fo jd => Sys2Proof.Machine.execBfSfr b fo jd s
  | .bfA b jd => Sys2Proof.Machine.execBfA b jd s
  | .bfPsw b jd => Sys2Proof.Machine.execBfPsw b jd s
  | .dbnzB jd => Sys2Proof.Machine.execDbnzB jd s
  | .dbnzC jd => Sys2Proof.Machine.execDbnzC jd s
  | .dbnzSaddr so jd => Sys2Proof.Machine.execDbnzSaddr so jd s
  | .nop => Sys2Proof.Machine.execNop s
  | .ei => Sys2Proof.Machine.execEi s
  | .di => Sys2Proof.Machine.execDi s
  | .halt => Sys2Proof.Machine.execHalt s
  | .stop => Sys2Proof.Machine.execStop s

end Sys2Proof.Machine
end

