-- ==== Sys2Proof/Machine/Fetch.lean ====
section
/-! DEFINITION. Fetching and decoding the instruction at the PC (30_encoding.md R110, R126;
20_memory.md R69, R80, R94). -/

namespace Sys2Proof.Machine

/-- `Fetch(addr)`: ROM, and high-speed RAM where the product fetches from it and the program has
not stored to the byte (20_memory.md R69, R80, R94). -/
def fetchByte (a : Word) (s : State) : Res Byte :=
  let cell : Res Byte :=
    match memGet s.mem a.toNat with
    | some v => .ok v
    | none => .error (.fault (.unwrittenFetch a))
  match region s.prod a with
  | .rom => cell
  | .ram =>
    if !s.prod.fetchFromRam then refuse (.fetchRight a)
    else if s.stored.contains a.toNat then refuse (.selfModifying a)
    else cell
  | .eeprom | .lcdRam | .sfr | .pswSp | .unmapped => refuse (.fetchRight a)

/-- Up to `n` bytes from ascending addresses modulo 2^16, and why the byte after them is not
there. With `n` bytes fetched the second component is not used by `fetchInstr`. -/
def fetchBytes : Nat → Word → State → List Byte × Stop
  | 0, a, _ => ([], .fault (.unwrittenFetch a))
  | n + 1, a, s =>
    match fetchByte a s with
    | .ok b =>
      let (rest, stop) := fetchBytes n (a + 1#16) s
      (b :: rest, stop)
    | .error stop => ([], stop)

/-- Why the decoder refuses, as a refusal of the machine (30_encoding.md R124 to R126). -/
def decodeRefusal : DecodeError → Stop → Stop
  | .truncated, stop => stop
  | .unassignedFirst b1, _ => .refused (.unassignedFirst b1)
  | .unassignedSecond b2, _ => .refused (.unassignedSecond b2)
  | .pswSpOffset o, _ => .refused (.pswSpOffset o)
  | .sfrOffset o, _ => .refused (.sfrOffset o)
  | .oddSaddrp o, _ => .refused (.oddSaddrp o)

/-- The instruction at the PC (30_encoding.md R126). Only the bytes the instruction needs have to
be there (log 30). -/
def fetchInstr (s : State) : Res Instr :=
  let (bytes, stop) := fetchBytes 4 s.pc s
  match decode bytes with
  | .ok (i, _) => .ok i
  | .error e => .error (decodeRefusal e stop)

/-- Memory with bytes placed from an address up, modulo 2^16. -/
def placeBytes : List Byte → Word → List Host.Cell → List Host.Cell
  | [], _, m => m
  | b :: bs, a, m => placeBytes bs (a + 1#16) (memPut m a.toNat b)

end Sys2Proof.Machine
end

