-- ==== Sys2Proof/Machine/Interrupt.lean ====
section
/-! DEFINITION. The boundary between two instructions: what the platform offers, when it is
acknowledged, standby, and the RESET input (60_exceptions.md R344 to R362; 70_reset_and_hazards.md
R370). -/

namespace Sys2Proof.Machine

/-- A platform that does nothing around a step (60_exceptions.md R344, a model with no
interrupts). -/
def PlatformInput.quiet : PlatformInput :=
  { reset := false, sources := none, sfr := [], offer := .withheld, keepRequest := false,
    release := false }

/-- The contract of `offer` on the vector: even, listed for the product, not 0000H
(60_exceptions.md R344). -/
def vectorListed (p : Product) (v : Word) : Bool :=
  v != 0#16 && !v.getLsbD 0 && p.vectors.any fun e => e.addr == v

/-- Whether a source's request can be offered: pending, and non-maskable or enabled by IE and its
mask flag (60_exceptions.md R344, R347). -/
def offerable (p : Product) (ie : Bool) (src : IntSource) : Bool :=
  src.pending && (src.nonMaskable || (ie && !src.masked)) && vectorListed p src.vector

/-- The source with the lowest vector address (60_exceptions.md R348). -/
def lowestVector : List IntSource → Option IntSource
  | [] => none
  | src :: l =>
    match lowestVector l with
    | none => some src
    | some best => if best.vector < src.vector then some best else some src

/-- `INT_CTRL.offer(ie)` (60_exceptions.md R344; the default order is R348, DESIGN CHOICE of the
spec, log 11). -/
def offered (rule : OfferRule) (ie : Bool) (s : State) : Option (Word × Bool) :=
  let l := s.intc.filter (offerable s.prod ie)
  let src : Option IntSource :=
    match rule with
    | .withheld => none
    | .chosen v => l.find? fun src => src.vector == v
    | .byDefault =>
      match lowestVector (l.filter (·.nonMaskable)) with
      | some src => some src
      | none => lowestVector l
  src.map fun src => (src.vector, src.nonMaskable)

/-- `can_acknowledge`, with the request it acknowledges (60_exceptions.md R347). -/
def canAcknowledge (inp : PlatformInput) (s : State) : Option (Word × Bool) :=
  if s.hold || s.nmis then none else offered inp.offer (s.flag .ie) s

/-- One step while `mode` is not `run` (60_exceptions.md R362, D17, log 26). -/
def standbyStep (inp : PlatformInput) (s : State) : Res State :=
  if inp.release then
    match canAcknowledge inp s with
    | some (v, nmi) => acknowledge v nmi inp.keepRequest s
    | none => .ok { s with mode := .run }
  else .ok s

/-- What the platform changes between two steps: its interrupt state, and storage SFR bytes
(60_exceptions.md R361, R364). A byte at an address with no storage register changes nothing. -/
def applyInput (inp : PlatformInput) (s : State) : State :=
  let isStorage (c : Host.Cell) : Bool :=
    s.prod.sfrMap.any fun e =>
      e.addr.toNat == c.1 && e.kind == .storage && region s.prod e.addr == .sfr
  { s with
    intc := inp.sources.getD s.intc
    mem := (inp.sfr.filter isStorage).foldl (fun m c => memPut m c.1 c.2) s.mem }

/-- Whether a memory byte survives RESET: ROM and EEPROM do (70_reset_and_hazards.md R370). -/
def keptByReset (p : Product) (c : Host.Cell) : Bool :=
  match region p (BitVec.ofNat 16 c.1) with
  | .rom | .eeprom => true
  | .lcdRam | .ram | .sfr | .pswSp | .unmapped => false

/-- The RESET input (70_reset_and_hazards.md R370): PC from the reset vector, PSW 02H, NMIS, `hold`
and standby cleared, ROM and EEPROM kept, RAM unwritten. SP and the registers, which the spec calls
unwritten, take the named values of logs 3 and 4; the platform's state is the platform's (log
12). -/
def resetInput (s : State) : Res State := do
  let s := { s with mem := s.mem.filter (keptByReset s.prod), stored := [] }
  let (target, s) ← memRead2 0x0000#16 s
  return { s with
    regs := Regs.atReset
    pc := target
    sp := 0x0000#16
    psw := 0x02#8
    pswByteWritten := false
    nmis := false
    hold := false
    mode := .run }

end Sys2Proof.Machine
end

