-- ==== Sys2Proof/Machine/Cycle.lean ====
section
/-! DEFINITION. One step of the whole machine (60_exceptions.md R364). -/

namespace Sys2Proof.Machine

/-- Fetch, decode and execute the instruction at the PC (60_exceptions.md R364, last branch). -/
def executeNext (s : State) : Out State :=
  match fetchInstr s with
  | .ok i => exec i s
  | .error (.fault r) => .fault r
  | .error (.refused r) => .refused r

/-- A step without RESET: standby, or acknowledge, or execute (60_exceptions.md R364). -/
def cycle (inp : PlatformInput) (s : State) : Out State :=
  match s.mode with
  | .halt | .stop => toOutcome (standbyStep inp s)
  | .run =>
    match canAcknowledge inp s with
    | some (v, nmi) => toOutcome (acknowledge v nmi inp.keepRequest s)
    | none => executeNext s

/-- A step with this platform input (60_exceptions.md R364). RESET comes first; the platform's
changes are made before the boundary is looked at, and after a RESET (log 12). -/
def stepWith (inp : PlatformInput) (s : State) : Out State :=
  if inp.reset then toOutcome ((resetInput s).map (applyInput inp))
  else cycle inp (applyInput inp s)

/-- A step: the platform's next input, or a quiet platform when its script is empty (log 9). -/
def machineStep (s : State) : Out State :=
  match s.inputs with
  | [] => stepWith .quiet s
  | inp :: rest => stepWith inp { s with inputs := rest }

/-- The script that begins with a quiet step: what `withFetchWord` leaves before the instruction it
places. -/
def quietNext : List PlatformInput → List PlatformInput
  | [] => []
  | l => .quiet :: l

end Sys2Proof.Machine
end

