-- ==== Sys2Proof/Machine/Step.lean ====
section
/-! DEFINITION. The step function and the loading of one instruction word for the host. -/

namespace Sys2Proof.Machine

/-- One step of the machine (60_exceptions.md R364). -/
def step (s : State) : Host.Outcome State Fault Refusal := machineStep s

/-- The state with the word of an opcode-table row stored where the next step fetches: its bytes,
B1 at the PC, then zeros up to four bytes (log 20), in run mode, not counted as stored by the
program, and with a quiet platform around that step. It stands for the loading of a program from
outside the machine (log 5). -/
def State.withFetchWord (s : State) (nbits w : Nat) : State :=
  { s with
    mem := placeBytes (Sys2Proof.tableBytes nbits w) s.pc s.mem
    stored := []
    mode := .run
    inputs := quietNext s.inputs }

end Sys2Proof.Machine
end

