-- ==== Sys2Proof/Safety.lean ====
section
/-! DEFINITION. What counts as a safe run, the end states of a run (70_reset_and_hazards.md R385),
the invariant of the machine, and the frame terms the claims use. -/

namespace Sys2Proof.Machine

/-! ### Runs -/

/-- `t` is reached from `s` by steps that all answer a next state. -/
inductive Reaches : State → State → Prop where
  | refl (s : State) : Reaches s s
  | step {s t u : State} : Reaches s t → step t = .next u → Reaches s u

/-- A run is safe while no step of it faults or is refused (60_exceptions.md R341). -/
def SafeRun (s : State) : Prop := ∀ t, Reaches s t → ∃ u, step t = .next u

/-- An end state by a branch to itself: the step changes nothing (R385, first row). -/
def EndsInLoop (s : State) : Prop := s.mode = .run ∧ step s = .next s

/-- An end state by standby that nothing releases: a quiet platform for ever (R385, second row). -/
def EndsInStandby (s : State) : Prop := s.mode ≠ .run ∧ s.inputs = []

/-- The end of what the model can say (R385, third row; 10_state.md R39 for the fault). -/
def EndsInStop (s : State) : Prop := (∃ r, step s = .fault r) ∨ ∃ r, step s = .refused r

/-! ### The invariant -/

/-- Under `PSW_FIXED` = hardwired, bits 5, 3, 2 of PSW are 0 and bit 1 is 1 (10_state.md R27). -/
def PswShape (s : State) : Prop :=
  s.prod.pswFixed = .hardwired →
    s.psw.getLsbD 5 = false ∧ s.psw.getLsbD 3 = false ∧ s.psw.getLsbD 2 = false ∧
      s.psw.getLsbD 1 = true

/-- What every step keeps: memory in canonical form, and the hard-wired bits of PSW. -/
def Inv (s : State) : Prop := Memory.wf s.mem ∧ PswShape s

/-! ### Frames -/

/-- Whether a read of an address goes to a byte of memory: RAM, ROM, EEPROM, LCD RAM, or a storage
SFR. -/
def isCell (p : Product) (a : Word) : Prop :=
  region p a = .rom ∨ region p a = .eeprom ∨ region p a = .lcdRam ∨ region p a = .ram ∨
    (region p a = .sfr ∧ ∃ e, sfrEntry? p a = some e ∧ e.kind = .storage)

/-- Whether an address is a device SFR. -/
def isDevice (p : Product) (a : Word) : Prop :=
  region p a = .sfr ∧ ∃ e, sfrEntry? p a = some e ∧ e.kind = .device

/-- What a memory access leaves alone: everything but memory and the model's own trace, counter and
note of stores; and memory outside the addresses listed. -/
structure Accessed (s t : State) (stores : List Word) : Prop where
  regs : t.regs = s.regs
  pc : t.pc = s.pc
  sp : t.sp = s.sp
  psw : t.psw = s.psw
  pswByteWritten : t.pswByteWritten = s.pswByteWritten
  nmis : t.nmis = s.nmis
  hold : t.hold = s.hold
  mode : t.mode = s.mode
  intc : t.intc = s.intc
  inputs : t.inputs = s.inputs
  prod : t.prod = s.prod
  mem : ∀ b : Word, b ∉ stores → memGet t.mem b.toNat = memGet s.mem b.toNat
  wf : Memory.wf s.mem → Memory.wf t.mem

/-- `st` is the note of stores of `s` with these addresses added: under `FETCH_FROM_RAM` only
(20_memory.md R94, log 19). -/
def Noted (s : State) (st : List Nat) (l : List Word) : Prop :=
  if s.prod.fetchFromRam then ∀ n, n ∈ st ↔ n ∈ s.stored ∨ ∃ a ∈ l, a.toNat = n
  else st = s.stored

end Sys2Proof.Machine
end

