-- ==== Sys2Proof/Certificates/Slice0/Terms.lean ====
section
/-! DEFINITION. The words the obligations are stated in: the spec's own formulas over natural
numbers and single bits, written apart from the model's, and tables that group the constructors of
one shape. -/

namespace Sys2Proof.Claims

open Sys2Proof.Machine

/-! ### Encoding -/

/-- The bytes, whatever follows them, are the instruction `i` (30_encoding.md R126). -/
def Encodes (i : Instr) (bytes : List Byte) : Prop :=
  ∀ rest : List Byte, decode (bytes ++ rest) = .ok (i, rest)

/-- The second byte `oooo R2 R1 R0 1`, by the register codes of 10_state.md R20. -/
def regCodeByte (op : Nat) (r : Reg) : Byte := BitVec.ofNat 8 (16 * op + 2 * r.code + 1)

/-- `q` is the address `n` bytes after the PC, where that does not pass FFFFH (10_state.md R24). -/
def Advances (s : State) (n : Nat) (q : Word) : Prop :=
  s.pc.toNat + n < 65536 → q.toNat = s.pc.toNat + n

/-- The state a step looks at: after the platform's changes, before the boundary
(60_exceptions.md R364). -/
def boundaryState (s : State) : State :=
  match s.inputs with
  | [] => s
  | inp :: rest => applyInput inp { s with inputs := rest }

/-! ### PSW bits: Z is bit 6, AC bit 4, CY bit 0, IE bit 7 (10_state.md R26) -/

/-- Z, AC, CY take these values, every other bit of PSW is kept. -/
def ZAcCySet (p p' : Byte) (z ac cy : Bool) : Prop :=
  p'.getLsbD 6 = z ∧ p'.getLsbD 4 = ac ∧ p'.getLsbD 0 = cy ∧
    ∀ i, i ≠ 6 → i ≠ 4 → i ≠ 0 → p'.getLsbD i = p.getLsbD i

/-- Z and AC take these values, every other bit of PSW is kept. -/
def ZAcSet (p p' : Byte) (z ac : Bool) : Prop :=
  p'.getLsbD 6 = z ∧ p'.getLsbD 4 = ac ∧ ∀ i, i ≠ 6 → i ≠ 4 → p'.getLsbD i = p.getLsbD i

/-- One bit of a byte takes this value, every other bit is kept. -/
def BitSet (p p' : Byte) (k : Nat) (v : Bool) : Prop :=
  ∀ i, p'.getLsbD i = if i = k then v else p.getLsbD i

/-- Bits 5, 3, 2 are 0 and bit 1 is 1 (10_state.md R27). -/
def NonFlagFixed (p : Byte) : Prop :=
  p.getLsbD 5 = false ∧ p.getLsbD 3 = false ∧ p.getLsbD 2 = false ∧ p.getLsbD 1 = true

/-- `p` is PSW after the byte `v` is written to it: the four flags are the byte's, and under
`PSW_FIXED` = hardwired the other four bits are fixed; under open nothing is said of them (R41). -/
def PswWritten (s : State) (v p : Byte) : Prop :=
  (∀ i ∈ [7, 6, 4, 0], p.getLsbD i = v.getLsbD i) ∧
    (s.prod.pswFixed = .hardwired → NonFlagFixed p)

/-- `v` is what a read of PSW gives: the four flags, and the other four bits fixed under hardwired
and, under open, until PSW has been written as a byte (R27, R41). -/
def PswReads (s : State) (v : Byte) : Prop :=
  (∀ i ∈ [7, 6, 4, 0], v.getLsbD i = s.psw.getLsbD i) ∧
    (s.prod.pswFixed = .hardwired ∨ s.pswByteWritten = false → NonFlagFixed v)

/-! ### The eight operations (00_scope.md R12, 42_operation_8bit.md R237) -/

/-- What an operation gives on `dst`, `src` and carry-in: the result `res` and PSW `p'` from `p`. -/
def AluSpec (op : AluOp) (dst src : Byte) (c : Bool) (res p p' : Byte) : Prop :=
  match op with
  | .add =>
    res.toNat = (dst.toNat + src.toNat) % 256 ∧
      ZAcCySet p p' (decide (res = 0#8)) (decide (15 < dst.toNat % 16 + src.toNat % 16))
        (decide (255 < dst.toNat + src.toNat))
  | .addc =>
    res.toNat = (dst.toNat + src.toNat + c.toNat) % 256 ∧
      ZAcCySet p p' (decide (res = 0#8))
        (decide (15 < dst.toNat % 16 + src.toNat % 16 + c.toNat))
        (decide (255 < dst.toNat + src.toNat + c.toNat))
  | .sub | .cmp =>
    res.toNat = (dst.toNat + 256 - src.toNat) % 256 ∧
      ZAcCySet p p' (decide (res = 0#8)) (decide (dst.toNat % 16 < src.toNat % 16))
        (decide (dst.toNat < src.toNat))
  | .subc =>
    res.toNat = (dst.toNat + 256 - src.toNat - c.toNat) % 256 ∧
      ZAcCySet p p' (decide (res = 0#8)) (decide (dst.toNat % 16 < src.toNat % 16 + c.toNat))
        (decide (dst.toNat < src.toNat + c.toNat))
  | .and =>
    (∀ i, res.getLsbD i = (dst.getLsbD i && src.getLsbD i)) ∧ BitSet p p' 6 (decide (res = 0#8))
  | .or =>
    (∀ i, res.getLsbD i = (dst.getLsbD i || src.getLsbD i)) ∧ BitSet p p' 6 (decide (res = 0#8))
  | .xor =>
    (∀ i, res.getLsbD i = (dst.getLsbD i ^^ src.getLsbD i)) ∧ BitSet p p' 6 (decide (res = 0#8))

/-- Where an operation with destination A leaves the registers: `CMP` writes none. -/
def aluRegs (op : AluOp) (g : Regs) (res : Byte) : Regs :=
  match op with
  | .cmp => g
  | .add | .addc | .sub | .subc | .and | .or | .xor => { g with a := res }

/-- `INC` (`up`) and `DEC`: the result, and Z and AC (44_incdec_rotate.md R245, R247). -/
def IncDecSpec (up : Bool) (v res p p' : Byte) : Prop :=
  res.toNat = (if up then v.toNat + 1 else v.toNat + 255) % 256 ∧
    ZAcSet p p' (decide (res = 0#8))
      (if up then decide (v.toNat % 16 = 15) else decide (v.toNat % 16 = 0))

/-! ### Relative branches (20_memory.md R90, 48_branch.md R318) -/

/-- The target of a relative branch of `len` bytes at `pc`: the displacement is two's complement. -/
def relTarget (pc : Word) (len : Nat) (jd : Byte) : Word :=
  BitVec.ofNat 16 (pc.toNat + len + (if jd.toNat < 128 then jd.toNat else jd.toNat + 0xFF00))

/-- The PC after a conditional relative branch. -/
def branchPc (taken : Bool) (pc : Word) (len : Nat) (jd : Byte) : Word :=
  if taken then relTarget pc len jd else pc + BitVec.ofNat 16 len

/-! ### Regions (20_memory.md R61 to R67) -/

/-- The address lies from `lo` to `hi`. -/
def Within (lo hi : Nat) (a : Word) : Prop := lo ≤ a.toNat ∧ a.toNat ≤ hi

/-- ROM ends below F800H and internal high-speed RAM begins above FA1BH, as in every product of R63
to R66. -/
def LaidOut (p : Product) : Prop := p.romTop.toNat < 0xF800 ∧ 0xFA1B < p.ramBase.toNat

/-- Which region an address lies in, by the bounds of R61 to R67, the addresses of PSW and SP
(10_state.md R40) apart; what is in none is unmapped (R85). -/
def RegionAt (p : Product) (a : Word) : Prop :=
  (region p a = .pswSp ↔ Within 0xFF1C 0xFF1E a) ∧
  (region p a = .sfr ↔ Within 0xFF00 0xFFFF a ∧ ¬Within 0xFF1C 0xFF1E a) ∧
  (region p a = .ram ↔ Within p.ramBase.toNat 0xFEFF a) ∧
  (LaidOut p →
    (region p a = .rom ↔ Within 0x0000 p.romTop.toNat a) ∧
    (region p a = .lcdRam ↔ p.lcdRam = true ∧ Within 0xFA00 0xFA1B a) ∧
    (region p a = .eeprom ↔ (p.eeprom = .bytes256 ∧ Within 0xF800 0xF8FF a) ∨
      (p.eeprom = .bytes128 ∧ Within 0xF800 0xF87F a)))

/-! ### Memory operands -/

/-- A memory operand form and its field. -/
inductive MemForm where
  | saddr (so : Byte) | sfr (fo : Byte) | addr16 (addr : Word) | de | hl | hlb (data : Byte)
  | saddrp (so : Byte)

/-- The effective address, by the operand address functions the meanings use (20_memory.md R97). -/
def MemForm.ea (f : MemForm) (s : State) : Res Word :=
  match f with
  | .saddr so => eaSaddr so
  | .sfr fo => eaSfr fo
  | .addr16 addr => .ok addr
  | .de => .ok (eaDe s)
  | .hl => .ok (eaHl s)
  | .hlb data => .ok (eaHlb data s)
  | .saddrp so => eaSaddrp so

/-- Whether an access with this unit may write the address (20_memory.md R69, R68). -/
def Writable (u : AccessUnit) (p : Product) (a : Word) : Prop :=
  region p a = .ram ∨ region p a = .lcdRam ∨
    (region p a = .sfr ∧ ∃ e, sfrEntry? p a = some e ∧ sfrAllows e u = true ∧ e.writable = true)

/-- `MOV A, mem` and its byte count (40_data_transfer_8bit.md). -/
def loadInstr : MemForm → Option (Instr × Nat)
  | .saddr so => some (.movASaddr so, 2)
  | .sfr fo => some (.movASfr fo, 2)
  | .addr16 addr => some (.movAAddr16 addr, 3)
  | .de => some (.movADe, 1)
  | .hl => some (.movAHl, 1)
  | .hlb data => some (.movAHlb data, 2)
  | .saddrp _ => none

/-- `MOV mem, A` and its byte count (40_data_transfer_8bit.md). -/
def storeInstr : MemForm → Option (Instr × Nat)
  | .saddr so => some (.movSaddrA so, 2)
  | .sfr fo => some (.movSfrA fo, 2)
  | .addr16 addr => some (.movAddr16A addr, 3)
  | .de => some (.movDeA, 1)
  | .hl => some (.movHlA, 1)
  | .hlb data => some (.movHlbA data, 2)
  | .saddrp _ => none

/-- `MOV mem, #byte` (40_data_transfer_8bit.md R141, R142); three bytes both. -/
def storeByteInstr (data : Byte) : MemForm → Option Instr
  | .saddr so => some (.movSaddrByte so data)
  | .sfr fo => some (.movSfrByte fo data)
  | .addr16 _ | .de | .hl | .hlb _ | .saddrp _ => none

/-- `XCH A, mem` and its byte count (40_data_transfer_8bit.md R162 to R166). -/
def xchInstr : MemForm → Option (Instr × Nat)
  | .saddr so => some (.xchASaddr so, 2)
  | .sfr fo => some (.xchASfr fo, 2)
  | .de => some (.xchADe, 1)
  | .hl => some (.xchAHl, 1)
  | .hlb data => some (.xchAHlb data, 2)
  | .addr16 _ | .saddrp _ => none

/-- The eight operations as `op A, #byte` (42_operation_8bit.md). -/
def aluByteInstr : AluOp → Byte → Instr
  | .add => .addAByte | .addc => .addcAByte | .sub => .subAByte | .subc => .subcAByte
  | .and => .andAByte | .or => .orAByte | .xor => .xorAByte | .cmp => .cmpAByte

/-- The eight operations as `op A, r` (42_operation_8bit.md). -/
def aluRegInstr : AluOp → Reg → Instr
  | .add => .addAR | .addc => .addcAR | .sub => .subAR | .subc => .subcAR
  | .and => .andAR | .or => .orAR | .xor => .xorAR | .cmp => .cmpAR

/-- The eight operations as `op A, mem`, with the byte count (42_operation_8bit.md). -/
def aluMemInstr (op : AluOp) : MemForm → Option (Instr × Nat)
  | .saddr so => some ((match op with
      | .add => .addASaddr so | .addc => .addcASaddr so | .sub => .subASaddr so
      | .subc => .subcASaddr so | .and => .andASaddr so | .or => .orASaddr so
      | .xor => .xorASaddr so | .cmp => .cmpASaddr so), 2)
  | .addr16 addr => some ((match op with
      | .add => .addAAddr16 addr | .addc => .addcAAddr16 addr | .sub => .subAAddr16 addr
      | .subc => .subcAAddr16 addr | .and => .andAAddr16 addr | .or => .orAAddr16 addr
      | .xor => .xorAAddr16 addr | .cmp => .cmpAAddr16 addr), 3)
  | .hl => some ((match op with
      | .add => .addAHl | .addc => .addcAHl | .sub => .subAHl | .subc => .subcAHl
      | .and => .andAHl | .or => .orAHl | .xor => .xorAHl | .cmp => .cmpAHl), 1)
  | .hlb data => some ((match op with
      | .add => .addAHlb data | .addc => .addcAHlb data | .sub => .subAHlb data
      | .subc => .subcAHlb data | .and => .andAHlb data | .or => .orAHlb data
      | .xor => .xorAHlb data | .cmp => .cmpAHlb data), 2)
  | .sfr _ | .de | .saddrp _ => none

/-- The eight operations as `op saddr, #byte` (42_operation_8bit.md). -/
def aluSaddrInstr : AluOp → Byte → Byte → Instr
  | .add => .addSaddrByte | .addc => .addcSaddrByte | .sub => .subSaddrByte
  | .subc => .subcSaddrByte | .and => .andSaddrByte | .or => .orSaddrByte
  | .xor => .xorSaddrByte | .cmp => .cmpSaddrByte

/-- `SET1 mem.bit` (`v` true) and `CLR1 mem.bit`, with the byte count
(45_bit_manipulation.md R260 to R269). -/
def memBitInstr (v : Bool) (b : BitVec 3) : MemForm → Option (Instr × Nat)
  | .saddr so => some (if v then .set1Saddr b so else .clr1Saddr b so, 3)
  | .sfr fo => some (if v then .set1Sfr b fo else .clr1Sfr b fo, 3)
  | .hl => some (if v then .set1Hl b else .clr1Hl b, 2)
  | .addr16 _ | .de | .hlb _ | .saddrp _ => none

/-- `BT mem.bit, $addr16` (`want` true) and `BF`; four bytes (48_branch.md R307, R308, R311,
R312). -/
def memBranchInstr (want : Bool) (b : BitVec 3) (jd : Byte) : MemForm → Option Instr
  | .saddr so => some (if want then .btSaddr b so jd else .bfSaddr b so jd)
  | .sfr fo => some (if want then .btSfr b fo jd else .bfSfr b fo jd)
  | .addr16 _ | .de | .hl | .hlb _ | .saddrp _ => none

/-- The memory operand of an instruction, its access unit, and whether it is read before it is
written; `none` where the instruction has no memory operand (20_memory.md R84). -/
def memOperand : Instr → Option (MemForm × AccessUnit × Bool)
  | .movSaddrByte so _ | .movSaddrA so => some (.saddr so, .byte, false)
  | .movSfrByte fo _ | .movSfrA fo => some (.sfr fo, .byte, false)
  | .movAddr16A addr => some (.addr16 addr, .byte, false)
  | .movDeA => some (.de, .byte, false)
  | .movHlA => some (.hl, .byte, false)
  | .movHlbA data => some (.hlb data, .byte, false)
  | .movASaddr so | .xchASaddr so
  | .addASaddr so | .addcASaddr so | .subASaddr so | .subcASaddr so
  | .andASaddr so | .orASaddr so | .xorASaddr so | .cmpASaddr so
  | .addSaddrByte so _ | .addcSaddrByte so _ | .subSaddrByte so _ | .subcSaddrByte so _
  | .andSaddrByte so _ | .orSaddrByte so _ | .xorSaddrByte so _ | .cmpSaddrByte so _
  | .incSaddr so | .decSaddr so | .dbnzSaddr so _ => some (.saddr so, .byte, true)
  | .movASfr fo | .xchASfr fo => some (.sfr fo, .byte, true)
  | .movAAddr16 addr | .addAAddr16 addr | .addcAAddr16 addr | .subAAddr16 addr
  | .subcAAddr16 addr | .andAAddr16 addr | .orAAddr16 addr | .xorAAddr16 addr
  | .cmpAAddr16 addr => some (.addr16 addr, .byte, true)
  | .movADe | .xchADe => some (.de, .byte, true)
  | .movAHl | .xchAHl | .addAHl | .addcAHl | .subAHl | .subcAHl | .andAHl | .orAHl
  | .xorAHl | .cmpAHl => some (.hl, .byte, true)
  | .movAHlb data | .xchAHlb data | .addAHlb data | .addcAHlb data | .subAHlb data
  | .subcAHlb data | .andAHlb data | .orAHlb data | .xorAHlb data
  | .cmpAHlb data => some (.hlb data, .byte, true)
  | .movwAxSaddrp so => some (.saddrp so, .word, true)
  | .movwSaddrpAx so => some (.saddrp so, .word, false)
  | .set1Saddr _ so | .clr1Saddr _ so | .btSaddr _ so _ | .bfSaddr _ so _ =>
    some (.saddr so, .bit, true)
  | .set1Sfr _ fo | .clr1Sfr _ fo | .btSfr _ fo _ | .bfSfr _ fo _ => some (.sfr fo, .bit, true)
  | .set1Hl _ | .clr1Hl _ => some (.hl, .bit, true)
  | .movRByte .. | .movAR _ | .movRA _ | .movPswByte _ | .movAPsw | .movPswA | .xchAX | .xchAR _
  | .movwRpWord .. | .movwAxRp _ | .movwRpAx _ | .xchwAxRp _
  | .addAByte _ | .addcAByte _ | .subAByte _ | .subcAByte _
  | .andAByte _ | .orAByte _ | .xorAByte _ | .cmpAByte _
  | .addAR _ | .addcAR _ | .subAR _ | .subcAR _ | .andAR _ | .orAR _ | .xorAR _ | .cmpAR _
  | .addwAxWord _ | .subwAxWord _ | .cmpwAxWord _ | .incR _ | .decR _ | .incwRp _ | .decwRp _
  | .ror | .rol | .rorc | .rolc | .set1A _ | .set1Psw _ | .clr1A _ | .clr1Psw _
  | .set1Cy | .clr1Cy | .not1Cy | .callAddr16 _ | .callt _ | .ret | .reti
  | .pushPsw | .pushRp _ | .popPsw | .popRp _ | .movwSpAx | .movwAxSp
  | .brAddr16 _ | .brRel _ | .brAx | .bc _ | .bnc _ | .bz _ | .bnz _
  | .btA .. | .btPsw .. | .bfA .. | .bfPsw .. | .dbnzB _ | .dbnzC _
  | .nop | .ei | .di | .halt | .stop => none

/-- The instructions that read a memory byte and write it back: `XCH A, mem`, `op saddr, #byte` but
`CMP`, `INC`, `DEC`, `DBNZ` of `saddr`, `SET1`, `CLR1` of a memory bit (20_memory.md R84). -/
def writesBack : Instr → Bool
  | .xchASaddr .. | .xchASfr .. | .xchADe | .xchAHl | .xchAHlb .. | .addSaddrByte ..
  | .addcSaddrByte .. | .subSaddrByte .. | .subcSaddrByte .. | .andSaddrByte .. | .orSaddrByte ..
  | .xorSaddrByte .. | .incSaddr .. | .decSaddr .. | .set1Saddr .. | .set1Sfr .. | .set1Hl ..
  | .clr1Saddr .. | .clr1Sfr .. | .clr1Hl .. | .dbnzSaddr .. => true
  | .movRByte .. | .movSaddrByte .. | .movSfrByte .. | .movAR .. | .movRA .. | .movASaddr ..
  | .movSaddrA .. | .movASfr .. | .movSfrA .. | .movAAddr16 .. | .movAddr16A .. | .movPswByte ..
  | .movAPsw | .movPswA | .movADe | .movDeA | .movAHl | .movHlA | .movAHlb .. | .movHlbA ..
  | .xchAX | .xchAR .. | .movwRpWord .. | .movwAxSaddrp .. | .movwSaddrpAx .. | .movwAxRp ..
  | .movwRpAx .. | .xchwAxRp .. | .addAByte .. | .addAR .. | .addASaddr .. | .addAAddr16 ..
  | .addAHl | .addAHlb .. | .addcAByte .. | .addcAR .. | .addcASaddr .. | .addcAAddr16 ..
  | .addcAHl | .addcAHlb .. | .subAByte .. | .subAR .. | .subASaddr .. | .subAAddr16 .. | .subAHl
  | .subAHlb .. | .subcAByte .. | .subcAR .. | .subcASaddr .. | .subcAAddr16 .. | .subcAHl
  | .subcAHlb .. | .andAByte .. | .andAR .. | .andASaddr .. | .andAAddr16 .. | .andAHl
  | .andAHlb .. | .orAByte .. | .orAR .. | .orASaddr .. | .orAAddr16 .. | .orAHl | .orAHlb ..
  | .xorAByte .. | .xorAR .. | .xorASaddr .. | .xorAAddr16 .. | .xorAHl | .xorAHlb ..
  | .cmpAByte .. | .cmpSaddrByte .. | .cmpAR .. | .cmpASaddr .. | .cmpAAddr16 .. | .cmpAHl
  | .cmpAHlb .. | .addwAxWord .. | .subwAxWord .. | .cmpwAxWord .. | .incR .. | .decR ..
  | .incwRp .. | .decwRp .. | .ror | .rol | .rorc | .rolc | .set1A .. | .set1Psw .. | .clr1A ..
  | .clr1Psw .. | .set1Cy | .clr1Cy | .not1Cy | .callAddr16 .. | .callt .. | .ret | .reti
  | .pushPsw | .pushRp .. | .popPsw | .popRp .. | .movwSpAx | .movwAxSp | .brAddr16 .. | .brRel ..
  | .brAx | .bc .. | .bnc .. | .bz .. | .bnz .. | .btSaddr .. | .btSfr .. | .btA .. | .btPsw ..
  | .bfSaddr .. | .bfSfr .. | .bfA .. | .bfPsw .. | .dbnzB .. | .dbnzC .. | .nop | .ei | .di
  | .halt | .stop => false

/-- The `saddr` and `saddrp` forms whose code, with offset 1EH or 1CH, is a PSW or SP form
(30_encoding.md R125). -/
def PswSpCode (i : Instr) : Prop :=
  (∃ data, i = .movSaddrByte 0x1E data) ∨ i = .movASaddr 0x1E ∨ i = .movSaddrA 0x1E ∨
    (∃ b, i = .set1Saddr b 0x1E) ∨ (∃ b, i = .clr1Saddr b 0x1E) ∨
    (∃ b jd, i = .btSaddr b 0x1E jd) ∨ (∃ b jd, i = .bfSaddr b 0x1E jd) ∨
    i = .movwSaddrpAx 0x1C ∨ i = .movwAxSaddrp 0x1C

/-! ### The stack -/

/-- Memory `m` is that of `s` with these bytes written and every other address reading as
before. -/
def Wrote (s : State) (m : List Host.Cell) (l : List (Word × Byte)) : Prop :=
  (∀ c ∈ l, memGet m c.1.toNat = some c.2) ∧
    ∀ b : Word, (∀ c ∈ l, c.1 ≠ b) → memGet m b.toNat = memGet s.mem b.toNat

/-- The `n` bytes below SP lie in internal high-speed RAM (20_memory.md R98). -/
def PushRoom (s : State) (n : Nat) : Prop :=
  ∀ k, k < n → inStackRam s.prod (s.sp - BitVec.ofNat 16 (k + 1)) = true

/-- The bytes from SP up lie in internal high-speed RAM and hold these values. -/
def OnStack (s : State) (l : List Byte) : Prop :=
  ∀ k, (h : k < l.length) →
    inStackRam s.prod (s.sp + BitVec.ofNat 16 k) = true ∧
      memGet s.mem (s.sp + BitVec.ofNat 16 k).toNat = some (l[k])

/-! ### Which instructions write what -/

/-- The five instructions after which no interrupt is acknowledged (10_state.md R34); `CLR1 PSW.7`
is `DI`. -/
def setsHold : Instr → Bool
  | .movPswByte _ | .movPswA | .popPsw | .reti | .di => true
  | .clr1Psw b => b == 7#3
  | .movRByte .. | .movSaddrByte .. | .movSfrByte .. | .movAR .. | .movRA .. | .movASaddr ..
  | .movSaddrA .. | .movASfr .. | .movSfrA .. | .movAAddr16 .. | .movAddr16A .. | .movAPsw
  | .movADe | .movDeA | .movAHl | .movHlA | .movAHlb .. | .movHlbA .. | .xchAX | .xchAR ..
  | .xchASaddr .. | .xchASfr .. | .xchADe | .xchAHl | .xchAHlb .. | .movwRpWord ..
  | .movwAxSaddrp .. | .movwSaddrpAx .. | .movwAxRp .. | .movwRpAx .. | .xchwAxRp ..
  | .addAByte .. | .addSaddrByte .. | .addAR .. | .addASaddr .. | .addAAddr16 .. | .addAHl
  | .addAHlb .. | .addcAByte .. | .addcSaddrByte .. | .addcAR .. | .addcASaddr ..
  | .addcAAddr16 .. | .addcAHl | .addcAHlb .. | .subAByte .. | .subSaddrByte .. | .subAR ..
  | .subASaddr .. | .subAAddr16 .. | .subAHl | .subAHlb .. | .subcAByte .. | .subcSaddrByte ..
  | .subcAR .. | .subcASaddr .. | .subcAAddr16 .. | .subcAHl | .subcAHlb .. | .andAByte ..
  | .andSaddrByte .. | .andAR .. | .andASaddr .. | .andAAddr16 .. | .andAHl | .andAHlb ..
  | .orAByte .. | .orSaddrByte .. | .orAR .. | .orASaddr .. | .orAAddr16 .. | .orAHl
  | .orAHlb .. | .xorAByte .. | .xorSaddrByte .. | .xorAR .. | .xorASaddr .. | .xorAAddr16 ..
  | .xorAHl | .xorAHlb .. | .cmpAByte .. | .cmpSaddrByte .. | .cmpAR .. | .cmpASaddr ..
  | .cmpAAddr16 .. | .cmpAHl | .cmpAHlb .. | .addwAxWord .. | .subwAxWord .. | .cmpwAxWord ..
  | .incR .. | .incSaddr .. | .decR .. | .decSaddr .. | .incwRp .. | .decwRp .. | .ror | .rol
  | .rorc | .rolc | .set1Saddr .. | .set1Sfr .. | .set1A .. | .set1Psw .. | .set1Hl ..
  | .clr1Saddr .. | .clr1Sfr .. | .clr1A .. | .clr1Hl .. | .set1Cy | .clr1Cy | .not1Cy
  | .callAddr16 .. | .callt .. | .ret | .pushPsw | .pushRp .. | .popRp .. | .movwSpAx
  | .movwAxSp | .brAddr16 .. | .brRel .. | .brAx | .bc .. | .bnc .. | .bz .. | .bnz ..
  | .btSaddr .. | .btSfr .. | .btA .. | .btPsw .. | .bfSaddr .. | .bfSfr .. | .bfA ..
  | .bfPsw .. | .dbnzB .. | .dbnzC .. | .dbnzSaddr .. | .nop | .ei | .halt | .stop => false

/-- The instructions that write SP (10_state.md R32). -/
def writesSp : Instr → Bool
  | .movwSpAx | .pushPsw | .pushRp _ | .popPsw | .popRp _ | .callAddr16 _ | .callt _ | .ret
  | .reti => true
  | .movRByte .. | .movSaddrByte .. | .movSfrByte .. | .movAR .. | .movRA .. | .movASaddr ..
  | .movSaddrA .. | .movASfr .. | .movSfrA .. | .movAAddr16 .. | .movAddr16A .. | .movPswByte ..
  | .movAPsw | .movPswA | .movADe | .movDeA | .movAHl | .movHlA | .movAHlb .. | .movHlbA ..
  | .xchAX | .xchAR .. | .xchASaddr .. | .xchASfr .. | .xchADe | .xchAHl | .xchAHlb ..
  | .movwRpWord .. | .movwAxSaddrp .. | .movwSaddrpAx .. | .movwAxRp .. | .movwRpAx ..
  | .xchwAxRp .. | .addAByte .. | .addSaddrByte .. | .addAR .. | .addASaddr .. | .addAAddr16 ..
  | .addAHl | .addAHlb .. | .addcAByte .. | .addcSaddrByte .. | .addcAR .. | .addcASaddr ..
  | .addcAAddr16 .. | .addcAHl | .addcAHlb .. | .subAByte .. | .subSaddrByte .. | .subAR ..
  | .subASaddr .. | .subAAddr16 .. | .subAHl | .subAHlb .. | .subcAByte .. | .subcSaddrByte ..
  | .subcAR .. | .subcASaddr .. | .subcAAddr16 .. | .subcAHl | .subcAHlb .. | .andAByte ..
  | .andSaddrByte .. | .andAR .. | .andASaddr .. | .andAAddr16 .. | .andAHl | .andAHlb ..
  | .orAByte .. | .orSaddrByte .. | .orAR .. | .orASaddr .. | .orAAddr16 .. | .orAHl
  | .orAHlb .. | .xorAByte .. | .xorSaddrByte .. | .xorAR .. | .xorASaddr .. | .xorAAddr16 ..
  | .xorAHl | .xorAHlb .. | .cmpAByte .. | .cmpSaddrByte .. | .cmpAR .. | .cmpASaddr ..
  | .cmpAAddr16 .. | .cmpAHl | .cmpAHlb .. | .addwAxWord .. | .subwAxWord .. | .cmpwAxWord ..
  | .incR .. | .incSaddr .. | .decR .. | .decSaddr .. | .incwRp .. | .decwRp .. | .ror | .rol
  | .rorc | .rolc | .set1Saddr .. | .set1Sfr .. | .set1A .. | .set1Psw .. | .set1Hl ..
  | .clr1Saddr .. | .clr1Sfr .. | .clr1A .. | .clr1Psw .. | .clr1Hl .. | .set1Cy | .clr1Cy
  | .not1Cy | .movwAxSp | .brAddr16 .. | .brRel .. | .brAx | .bc .. | .bnc .. | .bz .. | .bnz ..
  | .btSaddr .. | .btSfr .. | .btA .. | .btPsw .. | .bfSaddr .. | .bfSfr .. | .bfA ..
  | .bfPsw .. | .dbnzB .. | .dbnzC .. | .dbnzSaddr .. | .nop | .ei | .di | .halt | .stop => false

/-- The branches, calls and returns (46_call_return.md, 48_branch.md). -/
def transfersControl : Instr → Bool
  | .callAddr16 .. | .callt .. | .ret | .reti | .brAddr16 .. | .brRel .. | .brAx | .bc ..
  | .bnc .. | .bz .. | .bnz .. | .btSaddr .. | .btSfr .. | .btA .. | .btPsw .. | .bfSaddr ..
  | .bfSfr .. | .bfA .. | .bfPsw .. | .dbnzB .. | .dbnzC .. | .dbnzSaddr .. => true
  | .movRByte .. | .movSaddrByte .. | .movSfrByte .. | .movAR .. | .movRA .. | .movASaddr ..
  | .movSaddrA .. | .movASfr .. | .movSfrA .. | .movAAddr16 .. | .movAddr16A .. | .movPswByte ..
  | .movAPsw | .movPswA | .movADe | .movDeA | .movAHl | .movHlA | .movAHlb .. | .movHlbA ..
  | .xchAX | .xchAR .. | .xchASaddr .. | .xchASfr .. | .xchADe | .xchAHl | .xchAHlb ..
  | .movwRpWord .. | .movwAxSaddrp .. | .movwSaddrpAx .. | .movwAxRp .. | .movwRpAx ..
  | .xchwAxRp .. | .addAByte .. | .addSaddrByte .. | .addAR .. | .addASaddr .. | .addAAddr16 ..
  | .addAHl | .addAHlb .. | .addcAByte .. | .addcSaddrByte .. | .addcAR .. | .addcASaddr ..
  | .addcAAddr16 .. | .addcAHl | .addcAHlb .. | .subAByte .. | .subSaddrByte .. | .subAR ..
  | .subASaddr .. | .subAAddr16 .. | .subAHl | .subAHlb .. | .subcAByte .. | .subcSaddrByte ..
  | .subcAR .. | .subcASaddr .. | .subcAAddr16 .. | .subcAHl | .subcAHlb .. | .andAByte ..
  | .andSaddrByte .. | .andAR .. | .andASaddr .. | .andAAddr16 .. | .andAHl | .andAHlb ..
  | .orAByte .. | .orSaddrByte .. | .orAR .. | .orASaddr .. | .orAAddr16 .. | .orAHl | .orAHlb ..
  | .xorAByte .. | .xorSaddrByte .. | .xorAR .. | .xorASaddr .. | .xorAAddr16 .. | .xorAHl
  | .xorAHlb .. | .cmpAByte .. | .cmpSaddrByte .. | .cmpAR .. | .cmpASaddr .. | .cmpAAddr16 ..
  | .cmpAHl | .cmpAHlb .. | .addwAxWord .. | .subwAxWord .. | .cmpwAxWord .. | .incR ..
  | .incSaddr .. | .decR .. | .decSaddr .. | .incwRp .. | .decwRp .. | .ror | .rol | .rorc | .rolc
  | .set1Saddr .. | .set1Sfr .. | .set1A .. | .set1Psw .. | .set1Hl .. | .clr1Saddr ..
  | .clr1Sfr .. | .clr1A .. | .clr1Psw .. | .clr1Hl .. | .set1Cy | .clr1Cy | .not1Cy | .pushPsw
  | .pushRp .. | .popPsw | .popRp .. | .movwSpAx | .movwAxSp | .nop | .ei | .di | .halt
  | .stop => false

/-- The PSW bits an instruction may change (10_state.md R31): `none` is all of them. -/
def pswBits : Instr → Option (List Nat)
  | .movPswByte _ | .movPswA | .popPsw | .reti => none
  | .addAByte _ | .addSaddrByte .. | .addAR _ | .addASaddr _ | .addAAddr16 _ | .addAHl
  | .addAHlb _ | .addcAByte _ | .addcSaddrByte .. | .addcAR _ | .addcASaddr _ | .addcAAddr16 _
  | .addcAHl | .addcAHlb _ | .subAByte _ | .subSaddrByte .. | .subAR _ | .subASaddr _
  | .subAAddr16 _ | .subAHl | .subAHlb _ | .subcAByte _ | .subcSaddrByte .. | .subcAR _
  | .subcASaddr _ | .subcAAddr16 _ | .subcAHl | .subcAHlb _ | .cmpAByte _ | .cmpSaddrByte ..
  | .cmpAR _ | .cmpASaddr _ | .cmpAAddr16 _ | .cmpAHl | .cmpAHlb _
  | .addwAxWord _ | .subwAxWord _ | .cmpwAxWord _ => some [6, 4, 0]
  | .andAByte _ | .andSaddrByte .. | .andAR _ | .andASaddr _ | .andAAddr16 _ | .andAHl
  | .andAHlb _ | .orAByte _ | .orSaddrByte .. | .orAR _ | .orASaddr _ | .orAAddr16 _ | .orAHl
  | .orAHlb _ | .xorAByte _ | .xorSaddrByte .. | .xorAR _ | .xorASaddr _ | .xorAAddr16 _
  | .xorAHl | .xorAHlb _ => some [6]
  | .incR _ | .incSaddr _ | .decR _ | .decSaddr _ => some [6, 4]
  | .ror | .rol | .rorc | .rolc | .set1Cy | .clr1Cy | .not1Cy => some [0]
  | .set1Psw b | .clr1Psw b => some [b.toNat]
  | .ei | .di => some [7]
  | .movRByte .. | .movSaddrByte .. | .movSfrByte .. | .movAR .. | .movRA .. | .movASaddr ..
  | .movSaddrA .. | .movASfr .. | .movSfrA .. | .movAAddr16 .. | .movAddr16A .. | .movAPsw
  | .movADe | .movDeA | .movAHl | .movHlA | .movAHlb .. | .movHlbA .. | .xchAX | .xchAR ..
  | .xchASaddr .. | .xchASfr .. | .xchADe | .xchAHl | .xchAHlb .. | .movwRpWord ..
  | .movwAxSaddrp .. | .movwSaddrpAx .. | .movwAxRp .. | .movwRpAx .. | .xchwAxRp ..
  | .incwRp .. | .decwRp .. | .set1Saddr .. | .set1Sfr .. | .set1A .. | .set1Hl ..
  | .clr1Saddr .. | .clr1Sfr .. | .clr1A .. | .clr1Hl .. | .callAddr16 .. | .callt .. | .ret
  | .pushPsw | .pushRp .. | .popRp .. | .movwSpAx | .movwAxSp | .brAddr16 .. | .brRel .. | .brAx
  | .bc .. | .bnc .. | .bz .. | .bnz .. | .btSaddr .. | .btSfr .. | .btA .. | .btPsw ..
  | .bfSaddr .. | .bfSfr .. | .bfA .. | .bfPsw .. | .dbnzB .. | .dbnzC .. | .dbnzSaddr .. | .nop
  | .halt | .stop => some []

/-- The general-purpose registers an instruction may write (10_state.md R22). -/
def regsWritten : Instr → List Reg
  | .movRByte r _ | .movRA r | .incR r | .decR r => [r]
  | .movAR _ | .movASaddr _ | .movASfr _ | .movAAddr16 _ | .movAPsw | .movADe | .movAHl
  | .movAHlb _ | .xchASaddr _ | .xchASfr _ | .xchADe | .xchAHl | .xchAHlb _
  | .addAByte _ | .addAR _ | .addASaddr _ | .addAAddr16 _ | .addAHl | .addAHlb _
  | .addcAByte _ | .addcAR _ | .addcASaddr _ | .addcAAddr16 _ | .addcAHl | .addcAHlb _
  | .subAByte _ | .subAR _ | .subASaddr _ | .subAAddr16 _ | .subAHl | .subAHlb _
  | .subcAByte _ | .subcAR _ | .subcASaddr _ | .subcAAddr16 _ | .subcAHl | .subcAHlb _
  | .andAByte _ | .andAR _ | .andASaddr _ | .andAAddr16 _ | .andAHl | .andAHlb _
  | .orAByte _ | .orAR _ | .orASaddr _ | .orAAddr16 _ | .orAHl | .orAHlb _
  | .xorAByte _ | .xorAR _ | .xorASaddr _ | .xorAAddr16 _ | .xorAHl | .xorAHlb _
  | .ror | .rol | .rorc | .rolc | .set1A _ | .clr1A _ => [.a]
  | .xchAX | .movwAxSaddrp _ | .movwAxRp _ | .movwAxSp | .addwAxWord _ | .subwAxWord _ =>
    [.a, .x]
  | .xchAR r => [.a, r]
  | .movwRpWord rp _ | .movwRpAx rp | .incwRp rp | .decwRp rp | .popRp rp =>
    [pairHigh rp, pairLow rp]
  | .xchwAxRp rp => [.a, .x, pairHigh rp, pairLow rp]
  | .dbnzB _ => [.b]
  | .dbnzC _ => [.c]
  | .movSaddrByte .. | .movSfrByte .. | .movSaddrA .. | .movSfrA .. | .movAddr16A ..
  | .movPswByte .. | .movPswA | .movDeA | .movHlA | .movHlbA .. | .movwSaddrpAx ..
  | .addSaddrByte .. | .addcSaddrByte .. | .subSaddrByte .. | .subcSaddrByte ..
  | .andSaddrByte .. | .orSaddrByte .. | .xorSaddrByte .. | .cmpAByte .. | .cmpSaddrByte ..
  | .cmpAR .. | .cmpASaddr .. | .cmpAAddr16 .. | .cmpAHl | .cmpAHlb .. | .cmpwAxWord ..
  | .incSaddr .. | .decSaddr .. | .set1Saddr .. | .set1Sfr .. | .set1Psw .. | .set1Hl ..
  | .clr1Saddr .. | .clr1Sfr .. | .clr1Psw .. | .clr1Hl .. | .set1Cy | .clr1Cy | .not1Cy
  | .callAddr16 .. | .callt .. | .ret | .reti | .pushPsw | .pushRp .. | .popPsw | .movwSpAx
  | .brAddr16 .. | .brRel .. | .brAx | .bc .. | .bnc .. | .bz .. | .bnz .. | .btSaddr ..
  | .btSfr .. | .btA .. | .btPsw .. | .bfSaddr .. | .bfSfr .. | .bfA .. | .bfPsw ..
  | .dbnzSaddr .. | .nop | .ei | .di | .halt | .stop => []

/-! ### Unassigned codes (30_encoding.md R122, R123) -/

/-- The 94 unassigned first bytes, as R122 lists them. -/
def unassignedFirstBytes : List Nat :=
  [0x01, 0x03, 0x09, 0x16, 0x17, 0x18, 0x1A, 0x1B, 0x1C, 0x1E, 0x21, 0x23, 0x26, 0x28, 0x2A,
   0x31, 0x33, 0x35, 0x37, 0x39, 0x3B, 0x3D, 0x3F, 0x47, 0x4B, 0x51,
   0x53, 0x55, 0x57, 0x59, 0x5B, 0x5D, 0x5F, 0x67, 0x6B, 0x77, 0x7B, 0x82, 0x86, 0x87, 0x8A,
   0x8B, 0x8E, 0x92, 0x96, 0x97, 0x9A, 0x9B, 0x9E, 0xA7, 0xAB, 0xB4,
   0xB6, 0xB7, 0xB8, 0xBA, 0xBB, 0xBC, 0xBE, 0xC1, 0xC3, 0xC6, 0xC7, 0xC9, 0xCA, 0xCB, 0xCD,
   0xCE, 0xCF, 0xD0, 0xD1, 0xD3, 0xD7, 0xD9, 0xDA, 0xDB, 0xDD, 0xDE,
   0xDF, 0xE0, 0xE1, 0xE3, 0xEA, 0xEE, 0xF1, 0xF2, 0xF3, 0xF6, 0xF9, 0xFA, 0xFB, 0xFD, 0xFE,
   0xFF]

/-- The 36 unassigned second bytes after 0AH, as R123 lists them. -/
def unassignedSecondBytes : List Nat :=
  [0x0C, 0x1C, 0x2C, 0x3C, 0x4C, 0x5C, 0x6C, 0x7C, 0x8C, 0x9C, 0xAC, 0xBC, 0xCC, 0xDC, 0xEC,
   0xFC, 0x31, 0x33, 0x35, 0x37, 0x39, 0x3B, 0x3D, 0x3F, 0x51, 0x53, 0x55, 0x57, 0x59, 0x5B,
   0x5D, 0x5F, 0x01, 0x03, 0x23, 0xE3]

end Sys2Proof.Claims
end

