-- ==== Sys2Proof/Certificates/Slice0/Obligations.lean ====
section
/-! DEFINITION. The statements for the provers. Each docstring names the rules of spec/ it comes
from. -/

open Sys2Proof Sys2Proof.Machine Sys2Proof.Claims

/-! ### Encoding -/

/-- 30_encoding.md R115, R116, R121, R125: decoding the bytes of any well-formed instruction,
whatever follows them, gives that instruction and what follows. -/
def Obligations.DecodeEncode : Prop :=
  ∀ (i : Instr) (rest : List Byte), i.wf = true → decode (encode i ++ rest) = .ok (i, rest)

/-- 30_encoding.md R121, R125, R135: every instruction the decoder answers is well formed, and the
bytes it took are that instruction's encoding, so each byte sequence has one meaning. -/
def Obligations.EncodeDecode : Prop :=
  ∀ (bytes : List Byte) (i : Instr) (rest : List Byte),
    decode bytes = .ok (i, rest) → i.wf = true ∧ bytes = encode i ++ rest

/-- 30_encoding.md R115, R116, R125 and the worked examples of 40 to 49: one word of each family,
written out from the code lists. -/
def Obligations.DecodingSampleWords : Prop :=
  decode [0x0A, 0xF3, 0x4D] = .ok (.movRByte .a 0x4D, []) ∧
  decode [0xF5, 0x40, 0x5A] = .ok (.movSaddrByte 0x40 0x5A, []) ∧
  decode [0xF5, 0x1E, 0x5A] = .ok (.movPswByte 0x5A, []) ∧
  decode [0xFC, 0x34, 0x12] = .ok (.movwRpWord .hl 0x1234, []) ∧
  decode [0x0A, 0x87] = .ok (.addAR .b, []) ∧
  decode [0xD2, 0x34, 0x12] = .ok (.addwAxWord 0x1234, []) ∧
  decode [0x12] = .ok (.rolc, []) ∧
  decode [0x0A, 0xBA, 0x30] = .ok (.clr1Saddr 3 0x30, []) ∧
  decode [0x0A, 0x7A, 0x1E] = .ok (.ei, []) ∧
  decode [0x0A, 0xFA, 0x1E] = .ok (.di, []) ∧
  decode [0x22, 0x00, 0x05] = .ok (.callAddr16 0x0500, []) ∧
  decode [0x42] = .ok (.callt 1, []) ∧
  decode [0xAE] = .ok (.pushRp .hl, []) ∧
  decode [0xE6, 0x1C] = .ok (.movwSpAx, []) ∧
  decode [0x0A, 0xB8, 0x47, 0xFE] = .ok (.btSaddr 3 0x47 0xFE, []) ∧
  decode [0x0E] = .ok (.stop, [])

/-- 30_encoding.md R122 to R125, 20_memory.md R97: the 94 first bytes and the 36 second bytes after
0AH that the lists name are exactly the ones the decoder calls unassigned, whatever follows; a step
whose PC is at one of them is refused, with no next state; so is a step whose PC is at a code with
an offset that R97 refuses and R125 gives no PSW or SP meaning, with the refusal of that offset.
The refusals are the spec's own decisions (D6, D9, D10, D22, log 18). -/
def Obligations.UnassignedCodes : Prop :=
  (∀ (b : Byte) (rest : List Byte),
    decode (b :: rest) = .error (.unassignedFirst b) ↔ b.toNat ∈ unassignedFirstBytes) ∧
  (∀ (b : Byte) (rest : List Byte),
    decode (0x0A#8 :: b :: rest) = .error (.unassignedSecond b) ↔
      b.toNat ∈ unassignedSecondBytes) ∧
  (∀ (s : State) (b : Byte), s.mode = .run → s.inputs = [] →
    (fetchByte s.pc s = .ok b → b.toNat ∈ unassignedFirstBytes →
      step s = .refused (.unassignedFirst b)) ∧
    (fetchByte s.pc s = .ok 0x0A#8 → fetchByte (s.pc + 1#16) s = .ok b →
      b.toNat ∈ unassignedSecondBytes → step s = .refused (.unassignedSecond b))) ∧
  ∀ (s : State) (i : Instr) (f : MemForm) (u : AccessUnit) (reads : Bool) (e : Stop),
    s.mode = .run → s.inputs = [] → memOperand i = some (f, u, reads) → f.ea s = .error e →
    ¬PswSpCode i →
    (∀ k, (h : k < (encode i).length) →
      fetchByte (s.pc + BitVec.ofNat 16 k) s = .ok ((encode i)[k])) →
    step s = toOutcome (.error e)

/-! ### Operand addresses and memory -/

/-- 20_memory.md R97 (with R72, R73): the operand address functions of the two offset forms, their
refusals included. -/
def Obligations.OperandAddresses : Prop :=
  (∀ o : Byte, eaSaddr o =
    if o = 0x1C#8 ∨ o = 0x1D#8 ∨ o = 0x1E#8 then .error (.refused (.pswSpOffset o))
    else .ok (BitVec.ofNat 16 ((if 0x20 ≤ o.toNat then 0xFE00 else 0xFF00) + o.toNat))) ∧
  (∀ o : Byte, o ≠ 0x1C#8 → eaSaddrp o =
    if o.toNat % 2 = 1 then .error (.refused (.oddSaddrp o))
    else if o = 0x1E#8 then .error (.refused (.pswSpOffset o))
    else .ok (BitVec.ofNat 16 ((if 0x20 ≤ o.toNat then 0xFE00 else 0xFF00) + o.toNat))) ∧
  (∀ o : Byte, eaSfr o =
    if 0xD0 ≤ o.toNat ∧ o.toNat ≤ 0xDF then .error (.refused (.sfrOffset o))
    else if o = 0x1C#8 ∨ o = 0x1D#8 ∨ o = 0x1E#8 then .error (.refused (.pswSpOffset o))
    else .ok (BitVec.ofNat 16 (0xFF00 + o.toNat)))

/-- 20_memory.md R76 (and R75): the effective address of `[HL + byte]` is HL plus the unsigned offset,
the carry out of bit 15 ignored; of `[DE]` and `[HL]` the pair; and no instruction that addresses
memory through a pair changes DE or HL. -/
def Obligations.RegisterAddressing : Prop :=
  ∀ (s : State) (d : Byte),
    eaDe s = s.pair .de ∧ eaHl s = s.pair .hl ∧
    (eaHlb d s).toNat = ((s.pair .hl).toNat + d.toNat) % 65536 ∧
    ∀ (i : Instr) (f : MemForm) (u : AccessUnit) (reads : Bool) (t : State),
      memOperand i = some (f, u, reads) → f = .de ∨ f = .hl ∨ f = .hlb d →
      exec i s = .next t → t.pair .de = s.pair .de ∧ t.pair .hl = s.pair .hl

/-- 20_memory.md R61 to R66, R69, R80, R68 and 93_implementation_defined.md U14: the region of every
address, and what a byte read answers at every address, region by region; a ROM or RAM byte nothing
has written is the spec's fault (log 6); an EEPROM byte that no image lists (log 33), and a storage
SFR byte nothing has written (log 34), holds some value, the same at every read. `LaidOut` keeps the regions apart, and every product
of R63 to R66 meets it (log 31). -/
def Obligations.DataReads : Prop :=
  (∀ (q : Part) (m : List SfrEntry) (w : PswFixed) (r : Bool), LaidOut (q.product m w r)) ∧
  ∀ (u : AccessUnit) (a : Word) (s : State),
    RegionAt s.prod a ∧
    (region s.prod a = .rom ∨ region s.prod a = .lcdRam ∨ region s.prod a = .ram →
      (∀ v, memGet s.mem a.toNat = some v → memRead u a s = .ok (v, s)) ∧
      (memGet s.mem a.toNat = none → memRead u a s = .error (.fault (.unwritten a)))) ∧
    (region s.prod a = .eeprom → ∀ v, memGet s.mem a.toNat = some v → memRead u a s = .ok (v, s)) ∧
    (∃ v, ∀ (t : State) (w : AccessUnit), region t.prod a = .eeprom → memGet t.mem a.toNat = none →
      memRead w a t = .ok (v, t)) ∧
    (∃ v, ∀ (t : State) (w : AccessUnit) (e : SfrEntry), region t.prod a = .sfr →
      sfrEntry? t.prod a = some e → sfrAllows e w = true → e.readable = true → e.kind = .storage →
      memGet t.mem a.toNat = none → memRead w a t = .ok (v, t)) ∧
    (region s.prod a = .unmapped → memRead u a s = .error (.refused (.unmapped a))) ∧
    (a = 0xFF1C#16 ∨ a = 0xFF1D#16 ∨ a = 0xFF1E#16 →
      memRead u a s = .error (.refused (.pswSpAddress a))) ∧
    (region s.prod a = .sfr →
      (sfrEntry? s.prod a = none → memRead u a s = .error (.refused (.noSfr a))) ∧
      ∀ e, sfrEntry? s.prod a = some e →
        (sfrAllows e u = false → memRead u a s = .error (.refused (.sfrUnit a))) ∧
        (sfrAllows e u = true → e.readable = false →
          memRead u a s = .error (.refused (.sfrNotReadable a))) ∧
        (sfrAllows e u = true → e.readable = true → e.kind = .storage →
          ∀ v, memGet s.mem a.toNat = some v → memRead u a s = .ok (v, s)) ∧
        (sfrAllows e u = true → e.readable = true → e.kind = .device →
          ∃ v, memRead u a s = .ok (v, { s with draws := s.draws + 1 })))

/-- 20_memory.md R69, R66, R68, R80, R94: what a byte write answers at every address, region by region
(the regions by address: `DataReads`); where it stores, the byte reads back, every other address is
as before, and under `FETCH_FROM_RAM` the address is noted as stored to (log 19). -/
def Obligations.DataWrites : Prop :=
  ∀ (u : AccessUnit) (a : Word) (v : Byte) (s : State),
    (region s.prod a = .rom → memWrite u a v s = .error (.refused (.romWrite a))) ∧
    (region s.prod a = .eeprom → memWrite u a v s = .error (.refused (.eepromWrite a))) ∧
    (region s.prod a = .unmapped → memWrite u a v s = .error (.refused (.unmapped a))) ∧
    (a = 0xFF1C#16 ∨ a = 0xFF1D#16 ∨ a = 0xFF1E#16 →
      memWrite u a v s = .error (.refused (.pswSpAddress a))) ∧
    (region s.prod a = .sfr → sfrEntry? s.prod a = none →
      memWrite u a v s = .error (.refused (.noSfr a))) ∧
    (∀ e, region s.prod a = .sfr → sfrEntry? s.prod a = some e →
      (sfrAllows e u = false → memWrite u a v s = .error (.refused (.sfrUnit a))) ∧
      (sfrAllows e u = true → e.writable = false →
        memWrite u a v s = .error (.refused (.sfrNotWritable a)))) ∧
    (Writable u s.prod a →
      ∃ t, memWrite u a v s = .ok t ∧ Accessed s t [a] ∧ t.draws = s.draws ∧
        (isCell s.prod a →
          memGet t.mem a.toNat = some v ∧ t.sfrLog = s.sfrLog ∧ Noted s t.stored [a]) ∧
        (isDevice s.prod a →
          t.mem = s.mem ∧ t.stored = s.stored ∧ t.sfrLog = (a.toNat, v) :: s.sfrLog))

/-- 20_memory.md R80, R81: a two-byte access is two byte accesses, low byte at the lower address,
the upper address modulo 2^16. -/
def Obligations.WordAccesses : Prop :=
  ∀ (a : Word) (s s1 : State),
    (∀ lo hi s2, memRead .word a s = .ok (lo, s1) → memRead .word (a + 1#16) s1 = .ok (hi, s2) →
      ∃ w : Word, memRead2 a s = .ok (w, s2) ∧ w.toNat = 256 * hi.toNat + lo.toNat) ∧
    (∀ (w : Word) (s2 : State),
      memWrite .word a (BitVec.ofNat 8 w.toNat) s = .ok s1 →
      memWrite .word (a + 1#16) (BitVec.ofNat 8 (w.toNat / 256)) s1 = .ok s2 →
      memWrite2 a w s = .ok s2 ∧ Accessed s s2 [a, a + 1#16] ∧
      (region s.prod a = .ram → region s.prod (a + 1#16) = .ram →
        memGet s2.mem a.toNat = some (BitVec.ofNat 8 w.toNat) ∧
        memGet s2.mem (a + 1#16).toNat = some (BitVec.ofNat 8 (w.toNat / 256)) ∧
        memRead2 a s2 = .ok (w, s2)))

/-- 20_memory.md R98, R77, R94: every stack byte access, its refusal outside RAM_BASE to FEFFH, and the
frame of each; a push is noted as a store (log 19). -/
def Obligations.StackAccesses : Prop :=
  ∀ (v : Byte) (s : State),
    (s.prod.ramBase ≤ s.sp - 1#16 ∧ s.sp - 1#16 ≤ 0xFEFF#16 →
      ∃ m st, push8 v s = .ok { s with sp := s.sp - 1#16, mem := m, stored := st } ∧
        Wrote s m [(s.sp - 1#16, v)] ∧ Noted s st [s.sp - 1#16]) ∧
    (¬(s.prod.ramBase ≤ s.sp - 1#16 ∧ s.sp - 1#16 ≤ 0xFEFF#16) →
      push8 v s = .error (.refused (.stackOutsideRam (s.sp - 1#16)))) ∧
    (s.prod.ramBase ≤ s.sp ∧ s.sp ≤ 0xFEFF#16 →
      (memGet s.mem s.sp.toNat = some v → pop8 s = .ok (v, { s with sp := s.sp + 1#16 })) ∧
      (memGet s.mem s.sp.toNat = none → pop8 s = .error (.fault (.unwritten s.sp)))) ∧
    (¬(s.prod.ramBase ≤ s.sp ∧ s.sp ≤ 0xFEFF#16) →
      pop8 s = .error (.refused (.stackOutsideRam s.sp)))

/-- 20_memory.md R69 (fetch column), R62, R94: where an instruction byte can be fetched (the regions
by address: `DataReads`; what a store notes in `stored`: `DataWrites`, `StackAccesses`; log 19). -/
def Obligations.FetchRights : Prop :=
  ∀ (a : Word) (s : State),
    (region s.prod a = .rom →
      (∀ v, memGet s.mem a.toNat = some v → fetchByte a s = .ok v) ∧
      (memGet s.mem a.toNat = none → fetchByte a s = .error (.fault (.unwrittenFetch a)))) ∧
    (region s.prod a = .ram →
      (s.prod.fetchFromRam = false → fetchByte a s = .error (.refused (.fetchRight a))) ∧
      (s.prod.fetchFromRam = true → a.toNat ∈ s.stored →
        fetchByte a s = .error (.refused (.selfModifying a))) ∧
      (s.prod.fetchFromRam = true → a.toNat ∉ s.stored →
        (∀ v, memGet s.mem a.toNat = some v → fetchByte a s = .ok v) ∧
        (memGet s.mem a.toNat = none → fetchByte a s = .error (.fault (.unwrittenFetch a))))) ∧
    (region s.prod a ≠ .rom → region s.prod a ≠ .ram →
      fetchByte a s = .error (.refused (.fetchRight a)))

/-! ### Registers, PSW and the helper functions -/

/-- 10_state.md R21: a pair is the concatenation of its two registers, the odd-numbered one high; a
write to a pair writes both halves, reads back, and leaves the other six registers. -/
def Obligations.PairViews : Prop :=
  ∀ (s : State) (rp : RegPair) (w : Word),
    (s.pair rp).toNat =
      256 * (s.reg (Reg.ofCode (2 * rp.code + 1))).toNat +
        (s.reg (Reg.ofCode (2 * rp.code))).toNat ∧
    (s.setPair rp w).pair rp = w ∧
    (∀ r : Reg, r.code / 2 ≠ rp.code → (s.setPair rp w).reg r = s.reg r) ∧
    s.setPair rp w = { s with regs := (s.setPair rp w).regs }

/-- 10_state.md R41, R27: what PSW reads and what a byte write leaves, under both settings of
`PSW_FIXED`. -/
def Obligations.PswReadWrite : Prop :=
  ∀ (s : State) (v : Byte),
    PswReads s (pswRead s).1 ∧
    (pswRead s).2 = { s with draws := (pswRead s).2.draws } ∧
    (s.prod.pswFixed = .hardwired → (pswRead s).2 = s) ∧
    ∃ p n, pswWrite v s = { s with psw := p, pswByteWritten := true, draws := n } ∧
      PswWritten s v p

/-- 00_scope.md R12: the four arithmetic helper functions. -/
def Obligations.ArithmeticHelpers : Prop :=
  (∀ (a b : Byte) (c : Bool),
    (add8 a b c).res.toNat = (a.toNat + b.toNat + c.toNat) % 256 ∧
    ((add8 a b c).cy = true ↔ 255 < a.toNat + b.toNat + c.toNat) ∧
    ((add8 a b c).ac = true ↔ 15 < a.toNat % 16 + b.toNat % 16 + c.toNat) ∧
    ((add8 a b c).z = true ↔ (add8 a b c).res = 0#8)) ∧
  (∀ (a b : Byte) (c : Bool),
    ((sub8 a b c).res.toNat : Int) = ((a.toNat : Int) - b.toNat - c.toNat) % 256 ∧
    ((sub8 a b c).cy = true ↔ (a.toNat : Int) - b.toNat - c.toNat < 0) ∧
    ((sub8 a b c).ac = true ↔
      ((a.toNat % 16 : Nat) : Int) - (b.toNat % 16 : Nat) - c.toNat < 0) ∧
    ((sub8 a b c).z = true ↔ (sub8 a b c).res = 0#8)) ∧
  (∀ a b : Word,
    (add16 a b).res.toNat = (a.toNat + b.toNat) % 65536 ∧
    ((add16 a b).cy = true ↔ 65535 < a.toNat + b.toNat) ∧
    ((add16 a b).z = true ↔ (add16 a b).res = 0#16)) ∧
  ∀ a b : Word,
    ((sub16 a b).res.toNat : Int) = ((a.toNat : Int) - b.toNat) % 65536 ∧
    ((sub16 a b).cy = true ↔ (a.toNat : Int) - b.toNat < 0) ∧
    ((sub16 a b).z = true ↔ (sub16 a b).res = 0#16)

/-! ### Data transfer -/

/-- 40_data_transfer_8bit.md R143, R144, R160, R161: the register forms of `MOV` and `XCH`
(`movAR`, `movRA`, `xchAX`, `xchAR`), their codes and their effect: they complete in every state;
one or two registers, PC and `hold` change and nothing else; the codes that would name an excluded
register are unassigned. So does `MOV r, #byte` (`movRByte`,
R140), whose code is presumed (log 21) and is not stated here. -/
def Obligations.RegisterMoves : Prop :=
  ∀ (s : State) (r : Reg) (data : Byte),
    let done (i : Instr) (n : Nat) (g : Regs) : Prop :=
      ∃ q, Advances s n q ∧ exec i s = .next { s with regs := g, pc := q, hold := false }
    done (.movRByte r data) 3 (s.regs.set r data) ∧
    (r ≠ .a →
      Encodes (.movAR r) [0x0A, regCodeByte 0x2 r] ∧
      done (.movAR r) 2 { s.regs with a := s.regs.get r } ∧
      Encodes (.movRA r) [0x0A, regCodeByte 0xE r] ∧ done (.movRA r) 2 (s.regs.set r s.regs.a)) ∧
    Encodes .xchAX [0xC0] ∧ done .xchAX 1 { s.regs with a := s.regs.x, x := s.regs.a } ∧
    (r ≠ .a → r ≠ .x →
      Encodes (.xchAR r) [0x0A, regCodeByte 0x0 r] ∧
      ∃ g, done (.xchAR r) 2 g ∧ g.get r = s.regs.a ∧ g.a = s.regs.get r ∧
        ∀ q, q ≠ r → q ≠ .a → g.get q = s.regs.get q) ∧
    ∀ b ∈ [0x23#8, 0xE3#8, 0x01#8, 0x03#8], ∀ rest : List Byte,
      decode (0x0A#8 :: b :: rest) = .error (.unassignedSecond b)

/-- 41_data_transfer_16bit.md R170, R173 to R175, 47_stack.md R294, R295: the register forms of
`MOVW` and `XCHW` (`movwRpWord`, `movwAxRp`, `movwRpAx`, `xchwAxRp`, `movwSpAx`, `movwAxSp`): their
codes, and their effect, with its frame, in every state. -/
def Obligations.PairMoves : Prop :=
  ∀ (s : State) (rp : RegPair) (w : Word),
    let hi (w : Word) : Byte := BitVec.ofNat 8 (w.toNat / 256)
    let lo (w : Word) : Byte := BitVec.ofNat 8 w.toNat
    let put (g : Regs) (u v : Byte) : Regs := (g.set (pairHigh rp) u).set (pairLow rp) v
    let rpH := s.regs.get (pairHigh rp)
    let rpL := s.regs.get (pairLow rp)
    let code (base : Nat) : Byte := BitVec.ofNat 8 (base + 4 * rp.code)
    Encodes (.movwRpWord rp w) [code 0xF0, lo w, hi w] ∧
    (rp ≠ .ax → Encodes (.movwAxRp rp) [code 0xD0] ∧ Encodes (.movwRpAx rp) [code 0xE0] ∧
      Encodes (.xchwAxRp rp) [code 0xC0]) ∧
    Encodes .movwSpAx [0xE6, 0x1C] ∧ Encodes .movwAxSp [0xD6, 0x1C] ∧
    exec (.movwRpWord rp w) s =
      .next { s with regs := put s.regs (hi w) (lo w), pc := s.pc + 3#16, hold := false } ∧
    exec (.movwAxRp rp) s =
      .next { s with regs := { s.regs with a := rpH, x := rpL }, pc := s.pc + 1#16, hold := false } ∧
    exec (.movwRpAx rp) s =
      .next { s with regs := put s.regs s.regs.a s.regs.x, pc := s.pc + 1#16, hold := false } ∧
    exec (.xchwAxRp rp) s =
      .next { s with
        regs := put { s.regs with a := rpH, x := rpL } s.regs.a s.regs.x, pc := s.pc + 1#16,
        hold := false } ∧
    exec .movwSpAx s =
      .next { s with
        sp := BitVec.ofNat 16 (256 * s.regs.a.toNat + s.regs.x.toNat), pc := s.pc + 2#16,
        hold := false } ∧
    exec .movwAxSp s =
      .next { s with
        regs := { s.regs with a := hi s.sp, x := lo s.sp }, pc := s.pc + 2#16, hold := false }

/-- 40_data_transfer_8bit.md R145, R147, R149, R154, R156, R158: `MOV A, mem` in its six forms
(`movASaddr`, `movASfr`, `movAAddr16`, `movADe`, `movAHl`, `movAHlb`) completes wherever the byte
can be read: A takes it, no byte of memory and no other register changes. -/
def Obligations.LoadA : Prop :=
  ∀ (f : MemForm) (i : Instr) (n : Nat) (s s1 : State) (ea : Word) (v : Byte),
    loadInstr f = some (i, n) → f.ea s = .ok ea → memRead .byte ea s = .ok (v, s1) →
    exec i s = .next { s1 with
      regs := { s.regs with a := v }, pc := s.pc + BitVec.ofNat 16 n, hold := false } ∧
    Accessed s s1 [] ∧ s1.mem = s.mem

/-- 40_data_transfer_8bit.md R141, R142, R146, R148, R150, R155, R157, R159: `MOV mem, A` in its
six forms and `MOV saddr, #byte`, `MOV sfr, #byte` (`movSaddrA`, `movSfrA`, `movAddr16A`, `movDeA`,
`movHlA`, `movHlbA`, `movSaddrByte`, `movSfrByte`) complete wherever the byte may be written: that
byte takes the value and every byte at another address is as before. -/
def Obligations.StoreByte : Prop :=
  ∀ (f : MemForm) (s : State) (ea : Word),
    f.ea s = .ok ea → Writable .byte s.prod ea →
    (∀ i n, storeInstr f = some (i, n) →
      ∃ s1, memWrite .byte ea s.regs.a s = .ok s1 ∧
        exec i s = .next { s1 with pc := s.pc + BitVec.ofNat 16 n, hold := false } ∧
        Accessed s s1 [ea] ∧ (isCell s.prod ea → memGet s1.mem ea.toNat = some s.regs.a)) ∧
    ∀ i data, storeByteInstr data f = some i →
      ∃ s1, memWrite .byte ea data s = .ok s1 ∧
        exec i s = .next { s1 with pc := s.pc + 3#16, hold := false } ∧
        Accessed s s1 [ea] ∧ (isCell s.prod ea → memGet s1.mem ea.toNat = some data)

/-- 40_data_transfer_8bit.md R162 to R166: `XCH A, mem` in its five forms (`xchASaddr`, `xchASfr`,
`xchADe`, `xchAHl`, `xchAHlb`) exchanges A and the byte and changes nothing else. -/
def Obligations.ExchangeMemory : Prop :=
  ∀ (f : MemForm) (i : Instr) (n : Nat) (s s1 : State) (ea : Word) (v : Byte),
    xchInstr f = some (i, n) → f.ea s = .ok ea → memRead .byte ea s = .ok (v, s1) →
    Writable .byte s.prod ea →
    ∃ s2, memWrite .byte ea s.regs.a s1 = .ok s2 ∧
      exec i s = .next { s2 with
        regs := { s.regs with a := v }, pc := s.pc + BitVec.ofNat 16 n, hold := false } ∧
      Accessed s s2 [ea] ∧ (isCell s.prod ea → memGet s2.mem ea.toNat = some s.regs.a)

/-- 40_data_transfer_8bit.md R151 to R153, 10_state.md R34, R41: the PSW forms of `MOV`
(`movPswByte`, `movAPsw`, `movPswA`) complete in every state; the two writing forms set `hold`. -/
def Obligations.PswMoves : Prop :=
  ∀ (s : State) (data : Byte),
    (∃ p n, PswWritten s data p ∧
      exec (.movPswByte data) s = .next { s with
        psw := p, pswByteWritten := true, draws := n, pc := s.pc + 3#16, hold := true }) ∧
    (∃ p n, PswWritten s s.regs.a p ∧
      exec .movPswA s = .next { s with
        psw := p, pswByteWritten := true, draws := n, pc := s.pc + 2#16, hold := true }) ∧
    ∃ v n, PswReads s v ∧
      exec .movAPsw s = .next { s with
        regs := { s.regs with a := v }, draws := n, pc := s.pc + 2#16, hold := false }

/-- 41_data_transfer_16bit.md R171, R172: `MOVW AX, saddrp` and `MOVW saddrp, AX`
(`movwAxSaddrp`, `movwSaddrpAx`): X is the byte at the even address, A the byte after it; the
exact frame. The byte order is the spec's own choice D3, log 15. -/
def Obligations.WordMoves : Prop :=
  ∀ (so : Byte) (s : State) (ea : Word), eaSaddrp so = .ok ea →
    (∀ lo hi s1 s2, memRead .word ea s = .ok (lo, s1) → memRead .word (ea + 1#16) s1 = .ok (hi, s2) →
      exec (.movwAxSaddrp so) s = .next { s2 with
        regs := { s.regs with a := hi, x := lo }, pc := s.pc + 2#16, hold := false } ∧
      Accessed s s2 [] ∧ s2.mem = s.mem) ∧
    (Writable .word s.prod ea → Writable .word s.prod (ea + 1#16) →
      ∃ s1 s2, memWrite .word ea s.regs.x s = .ok s1 ∧
        memWrite .word (ea + 1#16) s.regs.a s1 = .ok s2 ∧
        exec (.movwSaddrpAx so) s = .next { s2 with pc := s.pc + 2#16, hold := false } ∧
        Accessed s s2 [ea, ea + 1#16] ∧
        (isCell s.prod ea → memGet s2.mem ea.toNat = some s.regs.x) ∧
        (isCell s.prod (ea + 1#16) → memGet s2.mem (ea + 1#16).toNat = some s.regs.a))

/-! ### 8-bit and 16-bit operations -/

/-- 42_operation_8bit.md R180 to R235, forms `A, #byte` and `A, r`: each of the eight operations
completes in every state, with the value and the flags R12 and R237 give, and the exact frame. The
places of the flags are presumed (R26, log 1); that the carry-in of `ADDC` and `SUBC` takes part in
AC is the spec's inference (log 24). -/
def Obligations.AluRegister : Prop :=
  ∀ (op : AluOp) (s : State) (data : Byte) (r : Reg),
    (∃ res p, AluSpec op s.regs.a data (s.psw.getLsbD 0) res s.psw p ∧
      exec (aluByteInstr op data) s = .next { s with
        regs := aluRegs op s.regs res, psw := p, pc := s.pc + 2#16, hold := false }) ∧
    ∃ res p, AluSpec op s.regs.a (s.regs.get r) (s.psw.getLsbD 0) res s.psw p ∧
      exec (aluRegInstr op r) s = .next { s with
        regs := aluRegs op s.regs res, psw := p, pc := s.pc + 2#16, hold := false }

/-- 42_operation_8bit.md R180 to R235, forms `A, saddr`, `A, !addr16`, `A, [HL]`,
`A, [HL + byte]`: each of the eight operations completes wherever the byte can be read, with the
value and the flags, no byte of memory changed. The places of the flags are presumed (R26, log 1);
that the carry-in of `ADDC` and `SUBC` takes part in AC is the spec's inference (log 24). -/
def Obligations.AluMemorySource : Prop :=
  ∀ (op : AluOp) (f : MemForm) (i : Instr) (n : Nat) (s s1 : State) (ea : Word) (v : Byte),
    aluMemInstr op f = some (i, n) → f.ea s = .ok ea → memRead .byte ea s = .ok (v, s1) →
    Accessed s s1 [] ∧ s1.mem = s.mem ∧
    ∃ res p, AluSpec op s.regs.a v (s.psw.getLsbD 0) res s.psw p ∧
      exec i s = .next { s1 with
        regs := aluRegs op s.regs res, psw := p, pc := s.pc + BitVec.ofNat 16 n, hold := false }

/-- 42_operation_8bit.md R181, R188, R195, R202, R209, R216, R223, R230, R237, 00_scope.md R12,
10_state.md R26, R31: `op saddr, #byte` completes wherever the byte can be read and, but for `CMP`,
written: the byte takes the result, A and every byte at another address are as before; `CMP` stores
nothing. The places of the flags are presumed (log 1); that the carry-in takes part in AC is the
spec's inference (log 24). -/
def Obligations.AluSaddrByte : Prop :=
  ∀ (op : AluOp) (so data : Byte) (s s1 : State) (ea : Word) (v : Byte),
    eaSaddr so = .ok ea → memRead .byte ea s = .ok (v, s1) →
    (op ≠ .cmp → Writable .byte s.prod ea) →
    ∃ res p, AluSpec op v data (s.psw.getLsbD 0) res s.psw p ∧
      if op = .cmp then
        exec (aluSaddrInstr op so data) s = .next { s1 with
          psw := p, pc := s.pc + 3#16, hold := false } ∧ Accessed s s1 [] ∧ s1.mem = s.mem
      else
        ∃ s2, memWrite .byte ea res s1 = .ok s2 ∧
          exec (aluSaddrInstr op so data) s = .next { s2 with
            psw := p, pc := s.pc + 3#16, hold := false } ∧
          Accessed s s2 [ea] ∧ (isCell s.prod ea → memGet s2.mem ea.toNat = some res)

/-- 43_operation_16bit.md R240 to R243, 10_state.md R26: `ADDW`, `SUBW`, `CMPW` (`addwAxWord`,
`subwAxWord`, `cmpwAxWord`) complete in every state; Z and CY as defined, AC any value (nothing is
said of bit 4; log 14), every other bit of PSW kept; `CMPW` writes no register. The places of Z and
CY are presumed (log 1). -/
def Obligations.WordArithmetic : Prop :=
  ∀ (s : State) (w : Word),
    let ax := 256 * s.regs.a.toNat + s.regs.x.toNat
    let flags (p : Byte) (z cy : Bool) : Prop :=
      p.getLsbD 6 = z ∧ p.getLsbD 0 = cy ∧
        ∀ k, k ≠ 6 → k ≠ 4 → k ≠ 0 → p.getLsbD k = s.psw.getLsbD k
    let done (g : Regs) (p : Byte) : State :=
      { s with regs := g, psw := p, draws := s.draws + 1, pc := s.pc + 3#16, hold := false }
    let put (v : Nat) : Regs :=
      { s.regs with a := BitVec.ofNat 8 (v / 256), x := BitVec.ofNat 8 v }
    let sum := (ax + w.toNat) % 65536
    let diff := (ax + 65536 - w.toNat) % 65536
    (∃ p, flags p (decide (sum = 0)) (decide (65535 < ax + w.toNat)) ∧
      exec (.addwAxWord w) s = .next (done (put sum) p)) ∧
    (∃ p, flags p (decide (diff = 0)) (decide (ax < w.toNat)) ∧
      exec (.subwAxWord w) s = .next (done (put diff) p)) ∧
    ∃ p, flags p (decide (diff = 0)) (decide (ax < w.toNat)) ∧
      exec (.cmpwAxWord w) s = .next (done s.regs p)

/-! ### Increment, decrement, rotate -/

/-- 44_incdec_rotate.md R245, R247, R249, R250: `INC r`, `DEC r` (Z and AC, CY kept) and `INCW`,
`DECW` (no flag): their codes, and their effect in every state (`incR`, `decR`, `incwRp`,
`decwRp`). -/
def Obligations.IncDecRegister : Prop :=
  ∀ (s : State) (r : Reg) (rp : RegPair),
    let w := 256 * (s.regs.get (pairHigh rp)).toNat + (s.regs.get (pairLow rp)).toNat
    let put (v : Nat) : Regs :=
      (s.regs.set (pairHigh rp) (BitVec.ofNat 8 (v / 256))).set (pairLow rp) (BitVec.ofNat 8 v)
    Encodes (.incR r) [0x0A, regCodeByte 0xC r] ∧ Encodes (.decR r) [0x0A, regCodeByte 0xD r] ∧
    Encodes (.incwRp rp) [BitVec.ofNat 8 (0x80 + 4 * rp.code)] ∧
    Encodes (.decwRp rp) [BitVec.ofNat 8 (0x90 + 4 * rp.code)] ∧
    (∃ res p, IncDecSpec true (s.regs.get r) res s.psw p ∧
      exec (.incR r) s = .next { s with
        regs := s.regs.set r res, psw := p, pc := s.pc + 2#16, hold := false }) ∧
    (∃ res p, IncDecSpec false (s.regs.get r) res s.psw p ∧
      exec (.decR r) s = .next { s with
        regs := s.regs.set r res, psw := p, pc := s.pc + 2#16, hold := false }) ∧
    exec (.incwRp rp) s = .next { s with
      regs := put ((w + 1) % 65536), pc := s.pc + 1#16, hold := false } ∧
    exec (.decwRp rp) s = .next { s with
      regs := put ((w + 65535) % 65536), pc := s.pc + 1#16, hold := false }

/-- 44_incdec_rotate.md R246, R248, 10_state.md R26, R31: `INC saddr`, `DEC saddr` (`incSaddr`,
`decSaddr`) complete wherever the byte can be read and written; Z and AC follow the result, CY is
kept. The places of the flags are presumed (log 1). -/
def Obligations.IncDecMemory : Prop :=
  ∀ (up : Bool) (so : Byte) (s s1 : State) (ea : Word) (v : Byte),
    eaSaddr so = .ok ea → memRead .byte ea s = .ok (v, s1) → Writable .byte s.prod ea →
    ∃ res p s2, IncDecSpec up v res s.psw p ∧ memWrite .byte ea res s1 = .ok s2 ∧
      exec (if up then .incSaddr so else .decSaddr so) s = .next { s2 with
        psw := p, pc := s.pc + 2#16, hold := false } ∧
      Accessed s s2 [ea] ∧ (isCell s.prod ea → memGet s2.mem ea.toNat = some res)

/-- 44_incdec_rotate.md R251 to R254: the four rotates (`ror`, `rol`, `rorc`, `rolc`): their codes,
and their effect in every state, bit by bit; CY takes the bit shifted out and no other flag
changes. -/
def Obligations.Rotates : Prop :=
  ∀ s : State,
    let a := s.regs.a
    let c := s.psw.getLsbD 0
    let rot (i : Instr) (down : Bool) (inBit : Bool) : Prop :=
      ∃ res p,
        (∀ k, k < 8 → res.getLsbD k =
          if down then (if k = 7 then inBit else a.getLsbD (k + 1))
          else (if k = 0 then inBit else a.getLsbD (k - 1))) ∧
        BitSet s.psw p 0 (if down then a.getLsbD 0 else a.getLsbD 7) ∧
        exec i s = .next { s with
          regs := { s.regs with a := res }, psw := p, pc := s.pc + 1#16, hold := false }
    Encodes .ror [0x00] ∧ Encodes .rol [0x10] ∧ Encodes .rorc [0x02] ∧ Encodes .rolc [0x12] ∧
    rot .ror true (a.getLsbD 0) ∧ rot .rol false (a.getLsbD 7) ∧ rot .rorc true c ∧
      rot .rolc false c

/-! ### Bit manipulation -/

/-- 45_bit_manipulation.md R262, R267: `SET1 A.bit` and `CLR1 A.bit` (`set1A`, `clr1A`): their codes,
and their effect in every state: one bit of A, PC and `hold` change and nothing else. -/
def Obligations.BitsOfA : Prop :=
  ∀ (s : State) (b : BitVec 3),
    Encodes (.set1A b) [0x0A, BitVec.ofNat 8 (0x02 + 16 * b.toNat)] ∧
    Encodes (.clr1A b) [0x0A, BitVec.ofNat 8 (0x82 + 16 * b.toNat)] ∧
    (∃ res q, BitSet s.regs.a res b.toNat true ∧ Advances s 2 q ∧
      exec (.set1A b) s = .next { s with
        regs := { s.regs with a := res }, pc := q, hold := false }) ∧
    ∃ res q, BitSet s.regs.a res b.toNat false ∧ Advances s 2 q ∧
      exec (.clr1A b) s = .next { s with
        regs := { s.regs with a := res }, pc := q, hold := false }

/-- 45_bit_manipulation.md R260, R261, R264 to R266, R269, R273: `SET1`, `CLR1` of `saddr.bit`,
`sfr.bit`, `[HL].bit` (`set1Saddr`, `set1Sfr`, `set1Hl`, `clr1Saddr`, `clr1Sfr`, `clr1Hl`) read the
byte, change the one bit and write the byte back; no flag changes. -/
def Obligations.BitsOfMemory : Prop :=
  ∀ (v : Bool) (b : BitVec 3) (f : MemForm) (i : Instr) (n : Nat) (s s1 : State) (ea : Word)
    (w : Byte),
    memBitInstr v b f = some (i, n) → f.ea s = .ok ea → memRead .bit ea s = .ok (w, s1) →
    Writable .bit s.prod ea →
    ∃ res s2, BitSet w res b.toNat v ∧ memWrite .bit ea res s1 = .ok s2 ∧
      exec i s = .next { s2 with pc := s.pc + BitVec.ofNat 16 n, hold := false } ∧
      Accessed s s2 [ea] ∧ (isCell s.prod ea → memGet s2.mem ea.toNat = some res)

/-- 45_bit_manipulation.md R263, R268, R270 to R272, R274, 48_branch.md R310, R314: `SET1`, `CLR1`,
`BT`, `BF` of `PSW.bit` (`set1Psw`, `clr1Psw`, `btPsw`, `bfPsw`): on the four flag bits the
addressed flag and no other is written or tested, and `CLR1 PSW.7` sets `hold`; on bits 5, 3, 2, 1
each is refused (the spec's choice D21, log 18). `SET1`, `CLR1`, `NOT1` of CY (`set1Cy`, `clr1Cy`,
`not1Cy`): their codes, and CY and no other bit written. The bit positions are presumed, log 1. -/
def Obligations.BitsOfPsw : Prop :=
  ∀ (s : State) (b : BitVec 3) (jd : Byte),
    let cy (i : Instr) (v : Bool) : Prop :=
      ∃ p, BitSet s.psw p 0 v ∧
        exec i s = .next { s with psw := p, pc := s.pc + 1#16, hold := false }
    (b.toNat ∈ [7, 6, 4, 0] →
      (∃ p, BitSet s.psw p b.toNat true ∧
        exec (.set1Psw b) s = .next { s with psw := p, pc := s.pc + 3#16, hold := false }) ∧
      (∃ p, BitSet s.psw p b.toNat false ∧
        exec (.clr1Psw b) s = .next { s with
          psw := p, pc := s.pc + 3#16, hold := decide (b.toNat = 7) }) ∧
      exec (.btPsw b jd) s = .next { s with
        pc := branchPc (s.psw.getLsbD b.toNat) s.pc 4 jd, hold := false } ∧
      exec (.bfPsw b jd) s = .next { s with
        pc := branchPc (!s.psw.getLsbD b.toNat) s.pc 4 jd, hold := false }) ∧
    (b.toNat ∉ [7, 6, 4, 0] →
      exec (.set1Psw b) s = .refused (.nonFlagBit b) ∧
      exec (.clr1Psw b) s = .refused (.nonFlagBit b) ∧
      exec (.btPsw b jd) s = .refused (.nonFlagBit b) ∧
      exec (.bfPsw b jd) s = .refused (.nonFlagBit b)) ∧
    Encodes .set1Cy [0x14] ∧ Encodes .clr1Cy [0x04] ∧ Encodes .not1Cy [0x06] ∧
    cy .set1Cy true ∧ cy .clr1Cy false ∧ cy .not1Cy (!s.psw.getLsbD 0)

/-! ### Call, return, stack -/

/-- 46_call_return.md R280, R281: `CALL !addr16` and `CALLT [addr5]` (`callAddr16`, `callt`)
complete wherever two bytes can be pushed (and the table entry at 0040H + 2t can be read): the
return address goes to SP - 1 and SP - 2, every other byte of memory is as before. -/
def Obligations.Calls : Prop :=
  ∀ (s s1 : State) (addr target : Word) (t : BitVec 5), PushRoom s 2 →
    let pushed (from_ : State) (target : Word) (len : Nat) (i : Instr) : Prop :=
      ∃ m st, Wrote s m
          [(s.sp - 1#16, BitVec.ofNat 8 ((s.pc.toNat + len) % 65536 / 256)),
            (s.sp - 2#16, BitVec.ofNat 8 (s.pc.toNat + len))] ∧
        Noted s st [s.sp - 1#16, s.sp - 2#16] ∧
        exec i s = .next { from_ with
          sp := s.sp - 2#16, mem := m, stored := st, pc := target, hold := false }
    pushed s addr 3 (.callAddr16 addr) ∧
    (memRead2 (BitVec.ofNat 16 (0x40 + 2 * t.toNat)) s = .ok (target, s1) →
      s1 = { s with draws := s1.draws } ∧ pushed s1 target 1 (.callt t))

/-- 46_call_return.md R282, R283, 10_state.md R34, R41: `RET` and `RETI` (`ret`, `reti`) complete
wherever the frame is held in the stack RAM: `RET` restores the PC only; `RETI` restores PC and
PSW, clears NMIS and sets `hold`. No byte of memory changes. -/
def Obligations.Returns : Prop :=
  ∀ (s : State) (lo hi p : Byte),
    (OnStack s [lo, hi] →
      exec .ret s = .next { s with
        sp := s.sp + 2#16, pc := BitVec.ofNat 16 (256 * hi.toNat + lo.toNat), hold := false }) ∧
    (OnStack s [lo, hi, p] →
      ∃ q n, PswWritten s p q ∧
        exec .reti s = .next { s with
          sp := s.sp + 3#16, pc := BitVec.ofNat 16 (256 * hi.toNat + lo.toNat), psw := q,
          pswByteWritten := true, draws := n, nmis := false, hold := true })

/-- 47_stack.md R290 to R293, 10_state.md R26, R27, R41: `PUSH` and `POP` of PSW and of a pair
(`pushPsw`, `pushRp`, `popPsw`, `popRp`), with their frame; `POP PSW` sets `hold`. The places of the
flags in PSW are presumed (log 1), what bits 5, 3, 2, 1 read and hold is log 2. -/
def Obligations.PushPop : Prop :=
  ∀ (s : State) (rp : RegPair) (lo hi : Byte),
    (PushRoom s 1 →
      ∃ v m st n, PswReads s v ∧ Wrote s m [(s.sp - 1#16, v)] ∧ Noted s st [s.sp - 1#16] ∧
        exec .pushPsw s = .next { s with
          sp := s.sp - 1#16, mem := m, stored := st, draws := n, pc := s.pc + 1#16,
          hold := false }) ∧
    (PushRoom s 2 →
      ∃ m st, Wrote s m
          [(s.sp - 1#16, s.regs.get (pairHigh rp)), (s.sp - 2#16, s.regs.get (pairLow rp))] ∧
        Noted s st [s.sp - 1#16, s.sp - 2#16] ∧
        exec (.pushRp rp) s = .next { s with
          sp := s.sp - 2#16, mem := m, stored := st, pc := s.pc + 1#16, hold := false }) ∧
    (OnStack s [lo] →
      ∃ q n, PswWritten s lo q ∧
        exec .popPsw s = .next { s with
          sp := s.sp + 1#16, psw := q, pswByteWritten := true, draws := n, pc := s.pc + 1#16,
          hold := true }) ∧
    (OnStack s [lo, hi] →
      exec (.popRp rp) s = .next { s with
        regs := (s.regs.set (pairHigh rp) hi).set (pairLow rp) lo, sp := s.sp + 2#16,
        pc := s.pc + 1#16, hold := false })

/-- 20_memory.md R98, 10_state.md R39, 46_call_return.md R280 to R283, 47_stack.md R290 to R293,
60_exceptions.md R350: an instruction or an acknowledge sequence whose first, second or third stack
byte lies outside internal high-speed RAM is refused as a whole, with that address; one that pops
a byte nothing has written faults as a whole (log 6). `CALLT` reads its table entry first; where
that read stops is `DataReads`. -/
def Obligations.StackRefusals : Prop :=
  ∀ (s : State) (rp : RegPair) (addr v : Word) (t : BitVec 5) (nmi keep : Bool),
    (∀ k, PushRoom s k → inStackRam s.prod (s.sp - BitVec.ofNat 16 (k + 1)) = false →
      let r : Refusal := .stackOutsideRam (s.sp - BitVec.ofNat 16 (k + 1))
      (k < 1 → exec .pushPsw s = .refused r) ∧
      (k < 2 → exec (.pushRp rp) s = .refused r ∧ exec (.callAddr16 addr) s = .refused r ∧
        ∀ target s1, memRead2 (BitVec.ofNat 16 (0x40 + 2 * t.toNat)) s = .ok (target, s1) →
          exec (.callt t) s = .refused r) ∧
      (k < 3 → acknowledge v nmi keep s = .error (.refused r))) ∧
    ∀ l : List Byte, OnStack s l →
      let a := s.sp + BitVec.ofNat 16 l.length
      let stops (e : Stop) : Prop :=
        (l.length < 1 → exec .popPsw s = toOutcome (.error e)) ∧
        (l.length < 2 → exec (.popRp rp) s = toOutcome (.error e) ∧
          exec .ret s = toOutcome (.error e)) ∧
        (l.length < 3 → exec .reti s = toOutcome (.error e))
      (inStackRam s.prod a = false → stops (.refused (.stackOutsideRam a))) ∧
      (inStackRam s.prod a = true → memGet s.mem a.toNat = none → stops (.fault (.unwritten a)))

/-! ### Branches and CPU control -/

/-- 48_branch.md R300, R302, 20_memory.md R93: `BR !addr16` and `BR AX` (`brAddr16`, `brAx`): their
codes, and their effect in every state: PC and `hold` change and nothing else. -/
def Obligations.Jumps : Prop :=
  ∀ (s : State) (lo hi : Byte),
    let addr : Word := BitVec.ofNat 16 (256 * hi.toNat + lo.toNat)
    Encodes (.brAddr16 addr) [0xB2, lo, hi] ∧ Encodes .brAx [0xB0] ∧
    exec (.brAddr16 addr) s = .next { s with pc := addr, hold := false } ∧
    exec .brAx s = .next { s with
      pc := BitVec.ofNat 16 (256 * s.regs.a.toNat + s.regs.x.toNat), hold := false }

/-- 48_branch.md R301, R303 to R306, R309, R313, R318: `BR $addr16` and the branches on a flag and on
a bit of A (`brRel`, `bc`, `bnc`, `bz`, `bnz`, `btA`, `bfA`) complete in every state and change PC
and `hold` only. The wrap of the target at the ends of the space is the spec's own choice (D4,
log 16). -/
def Obligations.RelativeBranches : Prop :=
  ∀ (s : State) (b : BitVec 3) (jd : Byte),
    let jump (i : Instr) (taken : Bool) (len : Nat) : Prop :=
      exec i s = .next { s with pc := branchPc taken s.pc len jd, hold := false }
    jump (.brRel jd) true 2 ∧ jump (.bc jd) (s.psw.getLsbD 0) 2 ∧ jump (.bnc jd) (!s.psw.getLsbD 0) 2 ∧
    jump (.bz jd) (s.psw.getLsbD 6) 2 ∧ jump (.bnz jd) (!s.psw.getLsbD 6) 2 ∧
    jump (.btA b jd) (s.regs.a.getLsbD b.toNat) 3 ∧
    jump (.bfA b jd) (!s.regs.a.getLsbD b.toNat) 3

/-- 48_branch.md R307, R308, R311, R312, R318: `BT`, `BF` of `saddr.bit` and `sfr.bit` (`btSaddr`,
`btSfr`, `bfSaddr`, `bfSfr`) read one byte, write none, and branch on the bit. -/
def Obligations.MemoryBitBranches : Prop :=
  ∀ (want : Bool) (b : BitVec 3) (jd : Byte) (f : MemForm) (i : Instr) (s s1 : State) (ea : Word)
    (v : Byte),
    memBranchInstr want b jd f = some i → f.ea s = .ok ea → memRead .bit ea s = .ok (v, s1) →
    exec i s = .next { s1 with
      pc := branchPc (v.getLsbD b.toNat == want) s.pc 4 jd, hold := false } ∧
    Accessed s s1 [] ∧ s1.mem = s.mem

/-- 48_branch.md R315 to R318, 10_state.md R31: `DBNZ` on B, C and a memory byte (`dbnzB`, `dbnzC`,
`dbnzSaddr`): decrement, branch while the result is not 0, no flag changes. -/
def Obligations.DecrementBranches : Prop :=
  ∀ (s : State) (jd : Byte),
    exec (.dbnzB jd) s = .next { s with
      regs := { s.regs with b := BitVec.ofNat 8 (s.regs.b.toNat + 255) },
      pc := branchPc (decide (s.regs.b ≠ 1#8)) s.pc 2 jd, hold := false } ∧
    exec (.dbnzC jd) s = .next { s with
      regs := { s.regs with c := BitVec.ofNat 8 (s.regs.c.toNat + 255) },
      pc := branchPc (decide (s.regs.c ≠ 1#8)) s.pc 2 jd, hold := false } ∧
    ∀ (so : Byte) (ea : Word) (v : Byte) (s1 : State),
      eaSaddr so = .ok ea → memRead .byte ea s = .ok (v, s1) → Writable .byte s.prod ea →
      ∃ s2, memWrite .byte ea (BitVec.ofNat 8 (v.toNat + 255)) s1 = .ok s2 ∧
        exec (.dbnzSaddr so jd) s = .next { s2 with
          pc := branchPc (decide (v ≠ 1#8)) s.pc 3 jd, hold := false } ∧
        Accessed s s2 [ea] ∧
        (isCell s.prod ea → memGet s2.mem ea.toNat = some (BitVec.ofNat 8 (v.toNat + 255)))

/-- 49_cpu_control.md R325 to R329, 10_state.md R34, R35: `NOP`, `EI`, `DI`, `HALT`, `STOP` complete
in every state, with the codes R325 to R329 give; `DI` sets `hold`, `HALT` and `STOP` leave the run
mode. -/
def Obligations.CpuControl : Prop :=
  ∀ s : State,
    Encodes .nop [0x08] ∧ Encodes .ei [0x0A, 0x7A, 0x1E] ∧ Encodes .di [0x0A, 0xFA, 0x1E] ∧
    Encodes .halt [0x0C] ∧ Encodes .stop [0x0E] ∧
    exec .nop s = .next { s with pc := s.pc + 1#16, hold := false } ∧
    (∃ p, BitSet s.psw p 7 true ∧
      exec .ei s = .next { s with psw := p, pc := s.pc + 3#16, hold := false }) ∧
    (∃ p, BitSet s.psw p 7 false ∧
      exec .di s = .next { s with psw := p, pc := s.pc + 3#16, hold := true }) ∧
    exec .halt s = .next { s with mode := .halt, pc := s.pc + 1#16, hold := false } ∧
    exec .stop s = .next { s with mode := .stop, pc := s.pc + 1#16, hold := false }

/-! ### Stops -/

/-- 60_exceptions.md R341, 20_memory.md R84, R97: every instruction with a memory operand stops, with
no next state: with the stop of its operand address; where it reads first, with the stop of its
first byte read; where it writes, after reading or not, with the refusal of that write; and the two
`MOVW` forms with the stop of their second byte. -/
def Obligations.MemoryOperandStops : Prop :=
  (∀ (i : Instr) (f : MemForm) (u : AccessUnit) (reads : Bool) (s : State) (e : Stop),
    memOperand i = some (f, u, reads) →
    (f.ea s = .error e → exec i s = toOutcome (.error e)) ∧
    ∀ ea, f.ea s = .ok ea →
      (reads = true → memRead u ea s = .error e → exec i s = toOutcome (.error e)) ∧
      (reads = false → ¬Writable u s.prod ea →
        ∃ r, (∀ w, memWrite u ea w s = .error (.refused r)) ∧ exec i s = .refused r) ∧
      ∀ v s1, writesBack i = true → memRead u ea s = .ok (v, s1) → ¬Writable u s.prod ea →
        ∃ r, (∀ w, memWrite u ea w s1 = .error (.refused r)) ∧ exec i s = .refused r) ∧
  ∀ (so : Byte) (s s1 : State) (ea : Word), eaSaddrp so = .ok ea →
    (∀ lo e, memRead .word ea s = .ok (lo, s1) → memRead .word (ea + 1#16) s1 = .error e →
      exec (.movwAxSaddrp so) s = toOutcome (.error e)) ∧
    (memWrite .word ea s.regs.x s = .ok s1 → ¬Writable .word s.prod (ea + 1#16) →
      ∃ r, (∀ w, memWrite .word (ea + 1#16) w s1 = .error (.refused r)) ∧
        exec (.movwSaddrpAx so) s = .refused r)

/-! ### Which instructions write what -/

/-- 10_state.md R24: an instruction that is no branch, call or return leaves PC at the address after
its bytes: PC goes up by the length of its encoding. The wrap past FFFFH is the spec's own choice
(D4, log 16). -/
def Obligations.PcAdvance : Prop :=
  ∀ (i : Instr) (s t : State), exec i s = .next t → transfersControl i = false →
    t.pc.toNat = (s.pc.toNat + (encode i).length) % 65536

/-- 10_state.md R31: an instruction changes only the PSW bits its row of the flag table names. -/
def Obligations.FlagWriters : Prop :=
  ∀ (i : Instr) (s t : State) (bits : List Nat), exec i s = .next t → pswBits i = some bits →
    ∀ k, k ∉ bits → t.psw.getLsbD k = s.psw.getLsbD k

/-- 10_state.md R22, R32: an instruction changes only the general-purpose registers its rule names,
and only the stack instructions, the calls and returns and `MOVW SP, AX` write SP. -/
def Obligations.RegisterWriters : Prop :=
  ∀ (i : Instr) (s t : State), exec i s = .next t →
    (∀ r, r ∉ regsWritten i → t.regs.get r = s.regs.get r) ∧
    (writesSp i = false → t.sp = s.sp)

/-- 10_state.md R33, R35, 60_exceptions.md R353: no instruction sets NMIS, and only `RETI` clears it;
only `HALT` and `STOP` change the mode. The rest is the model's choice: no instruction changes the
product (log 7), the interrupt state or the platform's script, so an SFR access of the program,
through which R344 lets `INT_CTRL`'s state change, does not: only the script does (logs 8, 9). -/
def Obligations.ControlStateWriters : Prop :=
  ∀ (i : Instr) (s t : State), exec i s = .next t →
    t.nmis = (if i = .reti then false else s.nmis) ∧
    t.mode = (if i = .halt then .halt else if i = .stop then .stop else s.mode) ∧
    t.intc = s.intc ∧ t.inputs = s.inputs ∧ t.prod = s.prod

/-! ### Interrupts, standby, reset, the step -/

/-- 60_exceptions.md R344, R347, R348, 10_state.md R26: a request is acknowledged only with `hold` = 0
and NMIS = 0; its vector is even, not 0000H and listed for the product; its source is pending; with
IE = 0 it is non-maskable, and a maskable one is not masked. Conversely, with `hold` = 0 and
NMIS = 0 a request that meets all this is acknowledged where the script chooses its vector; and
where the script asks for the default order (D26, log 11) some request is, a non-maskable one if
there is one, the lowest vector of its class. IE as bit 7 is the spec's inference (log 1); the
script is the model's (log 9). -/
def Obligations.AcknowledgeCondition : Prop :=
  (∀ (inp : PlatformInput) (s : State) (v : Word) (nmi : Bool),
    canAcknowledge inp s = some (v, nmi) →
    s.hold = false ∧ s.nmis = false ∧ v ≠ 0#16 ∧ v.toNat % 2 = 0 ∧
      (∃ row ∈ s.prod.vectors, row.addr = v) ∧ (s.psw.getLsbD 7 = false → nmi = true) ∧
      ∃ src ∈ s.intc, src.vector = v ∧ src.nonMaskable = nmi ∧ src.pending = true ∧
        (nmi = false → src.masked = false)) ∧
  ∀ (inp : PlatformInput) (s : State) (src : IntSource),
    s.hold = false → s.nmis = false → src ∈ s.intc → src.pending = true →
    src.vector ≠ 0#16 → src.vector.toNat % 2 = 0 → (∃ row ∈ s.prod.vectors, row.addr = src.vector) →
    src.nonMaskable = true ∨ (s.psw.getLsbD 7 = true ∧ src.masked = false) →
    (inp.offer = .chosen src.vector →
      ∃ nmi, canAcknowledge inp s = some (src.vector, nmi) ∧
        ((∀ q ∈ s.intc, q.vector = src.vector → q.nonMaskable = src.nonMaskable) →
          nmi = src.nonMaskable)) ∧
    (inp.offer = .byDefault →
      ∃ v nmi, canAcknowledge inp s = some (v, nmi) ∧ (src.nonMaskable = true → nmi = true) ∧
        (src.nonMaskable = nmi → v.toNat ≤ src.vector.toNat))

/-- 60_exceptions.md R350, R351, 20_memory.md R77, 10_state.md R26, R27, R41: the acknowledge sequence
completes wherever three bytes can be pushed and the vector is held outside the three stack bytes:
PSW as it was goes to SP - 1, PC to SP - 2 and SP - 3, IE is cleared and no other PSW bit changes,
NMIS is set for a non-maskable request, PC is the vector's word, the CPU runs, `hold` and the
registers are as before, every other byte of memory is as before. IE as bit 7 and the places of the
flags are log 1, what bits 5, 3, 2, 1 read is log 2, the order of saving PSW and clearing IE is D27
(log 25), the pending bit is log 10. -/
def Obligations.AcknowledgeSequence : Prop :=
  ∀ (s : State) (v : Word) (nmi keep : Bool) (lo hi : Byte), PushRoom s 3 →
    region s.prod v = .rom → region s.prod (v + 1#16) = .rom →
    memGet s.mem v.toNat = some lo → memGet s.mem (v + 1#16).toNat = some hi →
    ∃ p q m st n, PswReads s p ∧ BitSet s.psw q 7 false ∧
      Wrote s m [(s.sp - 1#16, p), (s.sp - 2#16, BitVec.ofNat 8 (s.pc.toNat / 256)),
        (s.sp - 3#16, BitVec.ofNat 8 s.pc.toNat)] ∧
      Noted s st [s.sp - 1#16, s.sp - 2#16, s.sp - 3#16] ∧
      acknowledge v nmi keep s = .ok { s with
        sp := s.sp - 3#16, mem := m, stored := st, draws := n, psw := q,
        nmis := s.nmis || nmi, pc := BitVec.ofNat 16 (256 * hi.toNat + lo.toNat), mode := .run,
        intc := acknowledged v keep s.intc }

/-- 60_exceptions.md R352, R353, 10_state.md R26: a `RETI` right after an acknowledge returns to the
interrupted PC with SP, every register and the four flags (IE among them) as they were, and NMIS
clear. The places of the flags are presumed (log 1); that IE comes back as it was rests on the
spec's decision to save PSW before IE is cleared (D27, log 25). -/
def Obligations.AcknowledgeThenReti : Prop :=
  ∀ (s t : State) (v : Word) (nmi keep : Bool), acknowledge v nmi keep s = .ok t →
    ∃ u, exec .reti t = .next u ∧ u.pc = s.pc ∧ u.sp = s.sp ∧ u.regs = s.regs ∧
      (∀ k ∈ [7, 6, 4, 0], u.psw.getLsbD k = s.psw.getLsbD k) ∧ u.nmis = false ∧ u.hold = true

/-- 47_stack.md R291, R293: `POP` of a pair right after its `PUSH` restores the pair, SP and every
other register; the two bytes below SP are the only memory that may differ. -/
def Obligations.PushThenPop : Prop :=
  ∀ (s t : State) (rp : RegPair), exec (.pushRp rp) s = .next t →
    ∃ u, exec (.popRp rp) t = .next u ∧ u.regs = s.regs ∧ u.sp = s.sp ∧ u.psw = s.psw ∧
      ∀ a : Word, a ≠ s.sp - 1#16 → a ≠ s.sp - 2#16 →
        memGet u.mem a.toNat = memGet s.mem a.toNat

/-- 46_call_return.md R280 to R282: a `RET` right after a `CALL` or a `CALLT` goes to the
instruction after it, with SP, PSW and every register as they were. -/
def Obligations.CallThenRet : Prop :=
  ∀ (s t : State) (addr : Word) (k : BitVec 5),
    let back (len : Nat) : Prop :=
      ∃ u, exec .ret t = .next u ∧ u.pc = BitVec.ofNat 16 (s.pc.toNat + len) ∧ u.sp = s.sp ∧
        u.regs = s.regs ∧ u.psw = s.psw
    (exec (.callAddr16 addr) s = .next t → back 3) ∧ (exec (.callt k) s = .next t → back 1)

/-- 60_exceptions.md R362: while the mode is not `run` a step executes no instruction: without a
release nothing but the platform's changes happens, with one the pending request is acknowledged if
the condition of R347 holds and else the CPU goes on at the PC. -/
def Obligations.StandbyStep : Prop :=
  ∀ (s s0 : State) (inp : PlatformInput) (rest : List PlatformInput),
    (s.mode ≠ .run → s.inputs = [] → step s = .next s) ∧
    (s.inputs = inp :: rest → inp.reset = false → s0 = applyInput inp { s with inputs := rest } →
      s.mode ≠ .run →
      (inp.release = false → step s = .next s0) ∧
      (inp.release = true → canAcknowledge inp s0 = none →
        step s = .next { s0 with mode := .run }) ∧
      ∀ v nmi, inp.release = true → canAcknowledge inp s0 = some (v, nmi) →
        step s = toOutcome (acknowledge v nmi inp.keepRequest s0))

/-- 60_exceptions.md R364, R345: one step of the whole machine: RESET first, then standby, then an
acknowledgment, then the instruction at the PC. RESET is sampled at a step's start and the
platform's changes of that step are made after it (the model's choice, log 12: R345 lets RESET come
at any time); every other branch acts on the state with those changes made. The script is the
model's (log 9). -/
def Obligations.MachineStep : Prop :=
  ∀ (s s0 : State) (inp : PlatformInput) (rest : List PlatformInput),
    s.inputs = inp :: rest → s0 = applyInput inp { s with inputs := rest } →
    (inp.reset = true →
      step s = toOutcome ((resetInput { s with inputs := rest }).map (applyInput inp))) ∧
    (inp.reset = false → s.mode = .run →
      (∀ v nmi, canAcknowledge inp s0 = some (v, nmi) →
        step s = toOutcome (acknowledge v nmi inp.keepRequest s0)) ∧
      (canAcknowledge inp s0 = none →
        (∀ i, fetchInstr s0 = .ok i → step s = exec i s0) ∧
        ∀ e, fetchInstr s0 = .error e → step s = toOutcome (.error e)))

/-- 30_encoding.md R126, 60_exceptions.md R364: with the bytes of a well-formed instruction at the
PC, in run mode and with no interrupt to acknowledge, a step is `exec` of that instruction. -/
def Obligations.StepRunsDecoded : Prop :=
  ∀ (s : State) (i : Instr), i.wf = true → s.mode = .run → s.inputs = [] →
    (∀ k, (h : k < (encode i).length) →
      fetchByte (s.pc + BitVec.ofNat 16 k) s = .ok ((encode i)[k])) →
    step s = exec i s

/-- 70_reset_and_hazards.md R370, R371, 10_state.md R39: the RESET input, in any mode: with the two
reset-vector bytes held in ROM a step gives PC their word, PSW 02H, NMIS, `hold` and standby
cleared, ROM and EEPROM kept, every byte of RAM and LCD RAM without a value, no byte listed for an
SFR, which then holds what the platform gives it (logs 12, 34; NMIS and `hold`: D15, log 13). (The
registers and SP take the model's named values, logs 3 and 4: nothing is said of them.) -/
def Obligations.ResetStep : Prop :=
  ∀ (s : State) (inp : PlatformInput) (rest : List PlatformInput) (lo hi : Byte),
    s.inputs = inp :: rest → inp.reset = true → inp.sfr = [] →
    region s.prod 0x0000#16 = .rom → region s.prod 0x0001#16 = .rom →
    memGet s.mem 0 = some lo → memGet s.mem 1 = some hi →
    ∃ t, step s = .next t ∧ t.pc = BitVec.ofNat 16 (256 * hi.toNat + lo.toNat) ∧
      t.psw = 0x02#8 ∧ t.nmis = false ∧ t.hold = false ∧ t.mode = .run ∧
      t.prod = s.prod ∧ t.inputs = rest ∧
      ∀ a : Word,
        (region s.prod a = .rom ∨ region s.prod a = .eeprom →
          memGet t.mem a.toNat = memGet s.mem a.toNat) ∧
        (region s.prod a = .ram ∨ region s.prod a = .lcdRam ∨ region s.prod a = .sfr →
          memGet t.mem a.toNat = none)

/-- 10_state.md R39: what the state after reset holds: PSW 02H (so every flag 0) and mode `run` as the
spec says, NMIS 0 and `hold` 0 by its decision D15 (log 13); and, the model's choice, no byte of
memory listed: RAM holds no value (R39, log 6), and the ROM and EEPROM images, which R39 says are
there, are loaded from outside (logs 5, 33). -/
def Obligations.ResetState : Prop :=
  State.reset.psw = 0x02#8 ∧ State.reset.flag .ie = false ∧ State.reset.flag .z = false ∧
    State.reset.flag .ac = false ∧ State.reset.flag .cy = false ∧ State.reset.nmis = false ∧
    State.reset.hold = false ∧ State.reset.mode = .run ∧
    ∀ a : Nat, memGet State.reset.mem a = none

/-! ### Invariants and whole-machine rules -/

/-- The invariant holds right after reset (10_state.md R27, R39). -/
def Obligations.InvAtReset : Prop := Inv State.reset

/-- 10_state.md R27, 20_memory.md R60: every step, from any state that meets it, keeps the
invariant: memory stays in canonical form within the 64-Kbyte space, and under hardwired the four
non-flag bits of PSW stay 0, 0, 0, 1. -/
def Obligations.InvKept : Prop :=
  ∀ s t : State, Inv s → step s = .next t → Inv t

/-- 20_memory.md R62, R66, R69: no step changes a byte of internal ROM or of EEPROM, whatever it
does: execute any instruction, acknowledge, stand by, or reset. -/
def Obligations.RomKept : Prop :=
  ∀ s t : State, step s = .next t →
    t.prod = s.prod ∧
    ∀ a : Word, region s.prod a = .rom ∨ region s.prod a = .eeprom →
      memGet t.mem a.toNat = memGet s.mem a.toNat

/-- 60_exceptions.md R347, R353, R354, 10_state.md R33: inside non-maskable servicing nothing is
acknowledged: without RESET a step in run mode is the instruction at the PC, whatever is offered,
and a step in standby is none, whatever is offered; and NMIS stays 1 until a `RETI` is executed or
the RESET input comes. -/
def Obligations.NmisBlocks : Prop :=
  ∀ s : State, s.nmis = true →
    ((∀ inp rest, s.inputs = inp :: rest → inp.reset = false) →
      (s.mode = .run → step s = executeNext (boundaryState s)) ∧
      (s.mode ≠ .run →
        step s = .next (boundaryState s) ∨
          step s = .next { boundaryState s with mode := .run })) ∧
    ∀ t, step s = .next t →
      t.nmis = true ∨ (∃ inp rest, s.inputs = inp :: rest ∧ inp.reset = true) ∨
        (s.mode = .run ∧ fetchInstr (boundaryState s) = .ok .reti ∧
          exec .reti (boundaryState s) = .next t)

/-- 10_state.md R34, 60_exceptions.md R355: after an instruction completes, `hold` is 1 exactly for
the five instructions that set it; and at a boundary with `hold` 1 no interrupt is acknowledged: in
run mode without RESET the step is the instruction at the PC, whatever is offered. -/
def Obligations.HoldWindow : Prop :=
  (∀ (i : Instr) (s t : State), exec i s = .next t → t.hold = setsHold i) ∧
  ∀ (s : State) (inp : PlatformInput) (rest : List PlatformInput),
    s.hold = true → s.mode = .run → s.inputs = inp :: rest → inp.reset = false →
    step s = executeNext (applyInput inp { s with inputs := rest })
end

