-- ==== Sys2Proof/Laws/State.lean ====
section
/-! SUPPORT. One lemma per field per update of the state, true by `rfl`, and the register and flag
views of the updates, so that no later proof unfolds a record update. -/

namespace Sys2Proof.Machine

/-! `State.setReg` -/

@[simp] theorem State.setReg_regs (s : State) (r : Reg) (v : Byte) :
    (s.setReg r v).regs = s.regs.set r v := rfl
@[simp] theorem State.setReg_pc (s : State) (r : Reg) (v : Byte) : (s.setReg r v).pc = s.pc := rfl
@[simp] theorem State.setReg_sp (s : State) (r : Reg) (v : Byte) : (s.setReg r v).sp = s.sp := rfl
@[simp] theorem State.setReg_psw (s : State) (r : Reg) (v : Byte) :
    (s.setReg r v).psw = s.psw := rfl
@[simp] theorem State.setReg_pswByteWritten (s : State) (r : Reg) (v : Byte) :
    (s.setReg r v).pswByteWritten = s.pswByteWritten := rfl
@[simp] theorem State.setReg_nmis (s : State) (r : Reg) (v : Byte) :
    (s.setReg r v).nmis = s.nmis := rfl
@[simp] theorem State.setReg_hold (s : State) (r : Reg) (v : Byte) :
    (s.setReg r v).hold = s.hold := rfl
@[simp] theorem State.setReg_mode (s : State) (r : Reg) (v : Byte) :
    (s.setReg r v).mode = s.mode := rfl
@[simp] theorem State.setReg_mem (s : State) (r : Reg) (v : Byte) :
    (s.setReg r v).mem = s.mem := rfl
@[simp] theorem State.setReg_stored (s : State) (r : Reg) (v : Byte) :
    (s.setReg r v).stored = s.stored := rfl
@[simp] theorem State.setReg_draws (s : State) (r : Reg) (v : Byte) :
    (s.setReg r v).draws = s.draws := rfl
@[simp] theorem State.setReg_sfrLog (s : State) (r : Reg) (v : Byte) :
    (s.setReg r v).sfrLog = s.sfrLog := rfl
@[simp] theorem State.setReg_intc (s : State) (r : Reg) (v : Byte) :
    (s.setReg r v).intc = s.intc := rfl
@[simp] theorem State.setReg_inputs (s : State) (r : Reg) (v : Byte) :
    (s.setReg r v).inputs = s.inputs := rfl
@[simp] theorem State.setReg_prod (s : State) (r : Reg) (v : Byte) :
    (s.setReg r v).prod = s.prod := rfl
@[simp] theorem State.setReg_flag (s : State) (r : Reg) (v : Byte) (g : Flag) : (s.setReg r v).flag g = s.flag g := rfl

/-! `State.setPair` -/

@[simp] theorem State.setPair_regs (s : State) (p : RegPair) (w : Word) :
    (s.setPair p w).regs = (s.regs.set (pairHigh p) (hiByte w)).set (pairLow p) (loByte w) := rfl
@[simp] theorem State.setPair_pc (s : State) (p : RegPair) (w : Word) :
    (s.setPair p w).pc = s.pc := rfl
@[simp] theorem State.setPair_sp (s : State) (p : RegPair) (w : Word) :
    (s.setPair p w).sp = s.sp := rfl
@[simp] theorem State.setPair_psw (s : State) (p : RegPair) (w : Word) :
    (s.setPair p w).psw = s.psw := rfl
@[simp] theorem State.setPair_pswByteWritten (s : State) (p : RegPair) (w : Word) :
    (s.setPair p w).pswByteWritten = s.pswByteWritten := rfl
@[simp] theorem State.setPair_nmis (s : State) (p : RegPair) (w : Word) :
    (s.setPair p w).nmis = s.nmis := rfl
@[simp] theorem State.setPair_hold (s : State) (p : RegPair) (w : Word) :
    (s.setPair p w).hold = s.hold := rfl
@[simp] theorem State.setPair_mode (s : State) (p : RegPair) (w : Word) :
    (s.setPair p w).mode = s.mode := rfl
@[simp] theorem State.setPair_mem (s : State) (p : RegPair) (w : Word) :
    (s.setPair p w).mem = s.mem := rfl
@[simp] theorem State.setPair_stored (s : State) (p : RegPair) (w : Word) :
    (s.setPair p w).stored = s.stored := rfl
@[simp] theorem State.setPair_draws (s : State) (p : RegPair) (w : Word) :
    (s.setPair p w).draws = s.draws := rfl
@[simp] theorem State.setPair_sfrLog (s : State) (p : RegPair) (w : Word) :
    (s.setPair p w).sfrLog = s.sfrLog := rfl
@[simp] theorem State.setPair_intc (s : State) (p : RegPair) (w : Word) :
    (s.setPair p w).intc = s.intc := rfl
@[simp] theorem State.setPair_inputs (s : State) (p : RegPair) (w : Word) :
    (s.setPair p w).inputs = s.inputs := rfl
@[simp] theorem State.setPair_prod (s : State) (p : RegPair) (w : Word) :
    (s.setPair p w).prod = s.prod := rfl
@[simp] theorem State.setPair_flag (s : State) (p : RegPair) (w : Word) (g : Flag) : (s.setPair p w).flag g = s.flag g := rfl

/-! `State.setFlag` -/

@[simp] theorem State.setFlag_regs (s : State) (f : Flag) (b : Bool) :
    (s.setFlag f b).regs = s.regs := rfl
@[simp] theorem State.setFlag_pc (s : State) (f : Flag) (b : Bool) :
    (s.setFlag f b).pc = s.pc := rfl
@[simp] theorem State.setFlag_sp (s : State) (f : Flag) (b : Bool) :
    (s.setFlag f b).sp = s.sp := rfl
@[simp] theorem State.setFlag_psw (s : State) (f : Flag) (b : Bool) :
    (s.setFlag f b).psw = pswSetFlag s.psw f b := rfl
@[simp] theorem State.setFlag_pswByteWritten (s : State) (f : Flag) (b : Bool) :
    (s.setFlag f b).pswByteWritten = s.pswByteWritten := rfl
@[simp] theorem State.setFlag_nmis (s : State) (f : Flag) (b : Bool) :
    (s.setFlag f b).nmis = s.nmis := rfl
@[simp] theorem State.setFlag_hold (s : State) (f : Flag) (b : Bool) :
    (s.setFlag f b).hold = s.hold := rfl
@[simp] theorem State.setFlag_mode (s : State) (f : Flag) (b : Bool) :
    (s.setFlag f b).mode = s.mode := rfl
@[simp] theorem State.setFlag_mem (s : State) (f : Flag) (b : Bool) :
    (s.setFlag f b).mem = s.mem := rfl
@[simp] theorem State.setFlag_stored (s : State) (f : Flag) (b : Bool) :
    (s.setFlag f b).stored = s.stored := rfl
@[simp] theorem State.setFlag_draws (s : State) (f : Flag) (b : Bool) :
    (s.setFlag f b).draws = s.draws := rfl
@[simp] theorem State.setFlag_sfrLog (s : State) (f : Flag) (b : Bool) :
    (s.setFlag f b).sfrLog = s.sfrLog := rfl
@[simp] theorem State.setFlag_intc (s : State) (f : Flag) (b : Bool) :
    (s.setFlag f b).intc = s.intc := rfl
@[simp] theorem State.setFlag_inputs (s : State) (f : Flag) (b : Bool) :
    (s.setFlag f b).inputs = s.inputs := rfl
@[simp] theorem State.setFlag_prod (s : State) (f : Flag) (b : Bool) :
    (s.setFlag f b).prod = s.prod := rfl
@[simp] theorem State.setFlag_reg (s : State) (f : Flag) (b : Bool) (q : Reg) : (s.setFlag f b).reg q = s.reg q := rfl

/-! `State.setAlu` -/

@[simp] theorem State.setAlu_regs (s : State) (r : AluResult) : (s.setAlu r).regs = s.regs := rfl
@[simp] theorem State.setAlu_pc (s : State) (r : AluResult) : (s.setAlu r).pc = s.pc := rfl
@[simp] theorem State.setAlu_sp (s : State) (r : AluResult) : (s.setAlu r).sp = s.sp := rfl
@[simp] theorem State.setAlu_psw (s : State) (r : AluResult) :
    (s.setAlu r).psw = pswAlu s.psw r := rfl
@[simp] theorem State.setAlu_pswByteWritten (s : State) (r : AluResult) :
    (s.setAlu r).pswByteWritten = s.pswByteWritten := rfl
@[simp] theorem State.setAlu_nmis (s : State) (r : AluResult) : (s.setAlu r).nmis = s.nmis := rfl
@[simp] theorem State.setAlu_hold (s : State) (r : AluResult) : (s.setAlu r).hold = s.hold := rfl
@[simp] theorem State.setAlu_mode (s : State) (r : AluResult) : (s.setAlu r).mode = s.mode := rfl
@[simp] theorem State.setAlu_mem (s : State) (r : AluResult) : (s.setAlu r).mem = s.mem := rfl
@[simp] theorem State.setAlu_stored (s : State) (r : AluResult) :
    (s.setAlu r).stored = s.stored := rfl
@[simp] theorem State.setAlu_draws (s : State) (r : AluResult) : (s.setAlu r).draws = s.draws := rfl
@[simp] theorem State.setAlu_sfrLog (s : State) (r : AluResult) :
    (s.setAlu r).sfrLog = s.sfrLog := rfl
@[simp] theorem State.setAlu_intc (s : State) (r : AluResult) : (s.setAlu r).intc = s.intc := rfl
@[simp] theorem State.setAlu_inputs (s : State) (r : AluResult) :
    (s.setAlu r).inputs = s.inputs := rfl
@[simp] theorem State.setAlu_prod (s : State) (r : AluResult) : (s.setAlu r).prod = s.prod := rfl
@[simp] theorem State.setAlu_reg (s : State) (r : AluResult) (q : Reg) : (s.setAlu r).reg q = s.reg q := rfl

/-! `State.setZAc` -/

@[simp] theorem State.setZAc_regs (s : State) (r : Arith8) : (s.setZAc r).regs = s.regs := rfl
@[simp] theorem State.setZAc_pc (s : State) (r : Arith8) : (s.setZAc r).pc = s.pc := rfl
@[simp] theorem State.setZAc_sp (s : State) (r : Arith8) : (s.setZAc r).sp = s.sp := rfl
@[simp] theorem State.setZAc_psw (s : State) (r : Arith8) :
    (s.setZAc r).psw = pswSetFlag (pswSetFlag s.psw .z r.z) .ac r.ac := rfl
@[simp] theorem State.setZAc_pswByteWritten (s : State) (r : Arith8) :
    (s.setZAc r).pswByteWritten = s.pswByteWritten := rfl
@[simp] theorem State.setZAc_nmis (s : State) (r : Arith8) : (s.setZAc r).nmis = s.nmis := rfl
@[simp] theorem State.setZAc_hold (s : State) (r : Arith8) : (s.setZAc r).hold = s.hold := rfl
@[simp] theorem State.setZAc_mode (s : State) (r : Arith8) : (s.setZAc r).mode = s.mode := rfl
@[simp] theorem State.setZAc_mem (s : State) (r : Arith8) : (s.setZAc r).mem = s.mem := rfl
@[simp] theorem State.setZAc_stored (s : State) (r : Arith8) : (s.setZAc r).stored = s.stored := rfl
@[simp] theorem State.setZAc_draws (s : State) (r : Arith8) : (s.setZAc r).draws = s.draws := rfl
@[simp] theorem State.setZAc_sfrLog (s : State) (r : Arith8) : (s.setZAc r).sfrLog = s.sfrLog := rfl
@[simp] theorem State.setZAc_intc (s : State) (r : Arith8) : (s.setZAc r).intc = s.intc := rfl
@[simp] theorem State.setZAc_inputs (s : State) (r : Arith8) : (s.setZAc r).inputs = s.inputs := rfl
@[simp] theorem State.setZAc_prod (s : State) (r : Arith8) : (s.setZAc r).prod = s.prod := rfl
@[simp] theorem State.setZAc_reg (s : State) (r : Arith8) (q : Reg) : (s.setZAc r).reg q = s.reg q := rfl

/-! `State.setArith16` -/

@[simp] theorem State.setArith16_regs (s : State) (r : Arith16) :
    (s.setArith16 r).regs = s.regs := rfl
@[simp] theorem State.setArith16_pc (s : State) (r : Arith16) : (s.setArith16 r).pc = s.pc := rfl
@[simp] theorem State.setArith16_sp (s : State) (r : Arith16) : (s.setArith16 r).sp = s.sp := rfl
@[simp] theorem State.setArith16_psw (s : State) (r : Arith16) :
    (s.setArith16 r).psw = pswSetFlag (pswSetFlag (pswSetFlag s.psw .z r.z) .cy r.cy) .ac
      (Config.drawBit s.draws) := rfl
@[simp] theorem State.setArith16_pswByteWritten (s : State) (r : Arith16) :
    (s.setArith16 r).pswByteWritten = s.pswByteWritten := rfl
@[simp] theorem State.setArith16_nmis (s : State) (r : Arith16) :
    (s.setArith16 r).nmis = s.nmis := rfl
@[simp] theorem State.setArith16_hold (s : State) (r : Arith16) :
    (s.setArith16 r).hold = s.hold := rfl
@[simp] theorem State.setArith16_mode (s : State) (r : Arith16) :
    (s.setArith16 r).mode = s.mode := rfl
@[simp] theorem State.setArith16_mem (s : State) (r : Arith16) : (s.setArith16 r).mem = s.mem := rfl
@[simp] theorem State.setArith16_stored (s : State) (r : Arith16) :
    (s.setArith16 r).stored = s.stored := rfl
@[simp] theorem State.setArith16_draws (s : State) (r : Arith16) :
    (s.setArith16 r).draws = s.draws + 1 := rfl
@[simp] theorem State.setArith16_sfrLog (s : State) (r : Arith16) :
    (s.setArith16 r).sfrLog = s.sfrLog := rfl
@[simp] theorem State.setArith16_intc (s : State) (r : Arith16) :
    (s.setArith16 r).intc = s.intc := rfl
@[simp] theorem State.setArith16_inputs (s : State) (r : Arith16) :
    (s.setArith16 r).inputs = s.inputs := rfl
@[simp] theorem State.setArith16_prod (s : State) (r : Arith16) :
    (s.setArith16 r).prod = s.prod := rfl
@[simp] theorem State.setArith16_reg (s : State) (r : Arith16) (q : Reg) : (s.setArith16 r).reg q = s.reg q := rfl

/-! `State.setSp` -/

@[simp] theorem State.setSp_regs (s : State) (w : Word) : (s.setSp w).regs = s.regs := rfl
@[simp] theorem State.setSp_pc (s : State) (w : Word) : (s.setSp w).pc = s.pc := rfl
@[simp] theorem State.setSp_sp (s : State) (w : Word) : (s.setSp w).sp = w := rfl
@[simp] theorem State.setSp_psw (s : State) (w : Word) : (s.setSp w).psw = s.psw := rfl
@[simp] theorem State.setSp_pswByteWritten (s : State) (w : Word) :
    (s.setSp w).pswByteWritten = s.pswByteWritten := rfl
@[simp] theorem State.setSp_nmis (s : State) (w : Word) : (s.setSp w).nmis = s.nmis := rfl
@[simp] theorem State.setSp_hold (s : State) (w : Word) : (s.setSp w).hold = s.hold := rfl
@[simp] theorem State.setSp_mode (s : State) (w : Word) : (s.setSp w).mode = s.mode := rfl
@[simp] theorem State.setSp_mem (s : State) (w : Word) : (s.setSp w).mem = s.mem := rfl
@[simp] theorem State.setSp_stored (s : State) (w : Word) : (s.setSp w).stored = s.stored := rfl
@[simp] theorem State.setSp_draws (s : State) (w : Word) : (s.setSp w).draws = s.draws := rfl
@[simp] theorem State.setSp_sfrLog (s : State) (w : Word) : (s.setSp w).sfrLog = s.sfrLog := rfl
@[simp] theorem State.setSp_intc (s : State) (w : Word) : (s.setSp w).intc = s.intc := rfl
@[simp] theorem State.setSp_inputs (s : State) (w : Word) : (s.setSp w).inputs = s.inputs := rfl
@[simp] theorem State.setSp_prod (s : State) (w : Word) : (s.setSp w).prod = s.prod := rfl
@[simp] theorem State.setSp_reg (s : State) (w : Word) (q : Reg) : (s.setSp w).reg q = s.reg q := rfl
@[simp] theorem State.setSp_flag (s : State) (w : Word) (g : Flag) : (s.setSp w).flag g = s.flag g := rfl

/-! `State.setMode` -/

@[simp] theorem State.setMode_regs (s : State) (m : Mode) : (s.setMode m).regs = s.regs := rfl
@[simp] theorem State.setMode_pc (s : State) (m : Mode) : (s.setMode m).pc = s.pc := rfl
@[simp] theorem State.setMode_sp (s : State) (m : Mode) : (s.setMode m).sp = s.sp := rfl
@[simp] theorem State.setMode_psw (s : State) (m : Mode) : (s.setMode m).psw = s.psw := rfl
@[simp] theorem State.setMode_pswByteWritten (s : State) (m : Mode) :
    (s.setMode m).pswByteWritten = s.pswByteWritten := rfl
@[simp] theorem State.setMode_nmis (s : State) (m : Mode) : (s.setMode m).nmis = s.nmis := rfl
@[simp] theorem State.setMode_hold (s : State) (m : Mode) : (s.setMode m).hold = s.hold := rfl
@[simp] theorem State.setMode_mode (s : State) (m : Mode) : (s.setMode m).mode = m := rfl
@[simp] theorem State.setMode_mem (s : State) (m : Mode) : (s.setMode m).mem = s.mem := rfl
@[simp] theorem State.setMode_stored (s : State) (m : Mode) : (s.setMode m).stored = s.stored := rfl
@[simp] theorem State.setMode_draws (s : State) (m : Mode) : (s.setMode m).draws = s.draws := rfl
@[simp] theorem State.setMode_sfrLog (s : State) (m : Mode) : (s.setMode m).sfrLog = s.sfrLog := rfl
@[simp] theorem State.setMode_intc (s : State) (m : Mode) : (s.setMode m).intc = s.intc := rfl
@[simp] theorem State.setMode_inputs (s : State) (m : Mode) : (s.setMode m).inputs = s.inputs := rfl
@[simp] theorem State.setMode_prod (s : State) (m : Mode) : (s.setMode m).prod = s.prod := rfl
@[simp] theorem State.setMode_reg (s : State) (m : Mode) (q : Reg) : (s.setMode m).reg q = s.reg q := rfl
@[simp] theorem State.setMode_flag (s : State) (m : Mode) (g : Flag) : (s.setMode m).flag g = s.flag g := rfl

/-! `State.goTo` -/

@[simp] theorem State.goTo_regs (s : State) (w : Word) (h : Bool) :
    (s.goTo w h).regs = s.regs := rfl
@[simp] theorem State.goTo_pc (s : State) (w : Word) (h : Bool) : (s.goTo w h).pc = w := rfl
@[simp] theorem State.goTo_sp (s : State) (w : Word) (h : Bool) : (s.goTo w h).sp = s.sp := rfl
@[simp] theorem State.goTo_psw (s : State) (w : Word) (h : Bool) : (s.goTo w h).psw = s.psw := rfl
@[simp] theorem State.goTo_pswByteWritten (s : State) (w : Word) (h : Bool) :
    (s.goTo w h).pswByteWritten = s.pswByteWritten := rfl
@[simp] theorem State.goTo_nmis (s : State) (w : Word) (h : Bool) :
    (s.goTo w h).nmis = s.nmis := rfl
@[simp] theorem State.goTo_hold (s : State) (w : Word) (h : Bool) : (s.goTo w h).hold = h := rfl
@[simp] theorem State.goTo_mode (s : State) (w : Word) (h : Bool) :
    (s.goTo w h).mode = s.mode := rfl
@[simp] theorem State.goTo_mem (s : State) (w : Word) (h : Bool) : (s.goTo w h).mem = s.mem := rfl
@[simp] theorem State.goTo_stored (s : State) (w : Word) (h : Bool) :
    (s.goTo w h).stored = s.stored := rfl
@[simp] theorem State.goTo_draws (s : State) (w : Word) (h : Bool) :
    (s.goTo w h).draws = s.draws := rfl
@[simp] theorem State.goTo_sfrLog (s : State) (w : Word) (h : Bool) :
    (s.goTo w h).sfrLog = s.sfrLog := rfl
@[simp] theorem State.goTo_intc (s : State) (w : Word) (h : Bool) :
    (s.goTo w h).intc = s.intc := rfl
@[simp] theorem State.goTo_inputs (s : State) (w : Word) (h : Bool) :
    (s.goTo w h).inputs = s.inputs := rfl
@[simp] theorem State.goTo_prod (s : State) (w : Word) (h : Bool) :
    (s.goTo w h).prod = s.prod := rfl
@[simp] theorem State.goTo_reg (s : State) (w : Word) (h : Bool) (q : Reg) : (s.goTo w h).reg q = s.reg q := rfl
@[simp] theorem State.goTo_flag (s : State) (w : Word) (h : Bool) (g : Flag) : (s.goTo w h).flag g = s.flag g := rfl

/-! `State.done` -/

@[simp] theorem State.done_regs (s : State) (n : Nat) : (s.done n).regs = s.regs := rfl
@[simp] theorem State.done_pc (s : State) (n : Nat) : (s.done n).pc = s.next n := rfl
@[simp] theorem State.done_sp (s : State) (n : Nat) : (s.done n).sp = s.sp := rfl
@[simp] theorem State.done_psw (s : State) (n : Nat) : (s.done n).psw = s.psw := rfl
@[simp] theorem State.done_pswByteWritten (s : State) (n : Nat) :
    (s.done n).pswByteWritten = s.pswByteWritten := rfl
@[simp] theorem State.done_nmis (s : State) (n : Nat) : (s.done n).nmis = s.nmis := rfl
@[simp] theorem State.done_hold (s : State) (n : Nat) : (s.done n).hold = false := rfl
@[simp] theorem State.done_mode (s : State) (n : Nat) : (s.done n).mode = s.mode := rfl
@[simp] theorem State.done_mem (s : State) (n : Nat) : (s.done n).mem = s.mem := rfl
@[simp] theorem State.done_stored (s : State) (n : Nat) : (s.done n).stored = s.stored := rfl
@[simp] theorem State.done_draws (s : State) (n : Nat) : (s.done n).draws = s.draws := rfl
@[simp] theorem State.done_sfrLog (s : State) (n : Nat) : (s.done n).sfrLog = s.sfrLog := rfl
@[simp] theorem State.done_intc (s : State) (n : Nat) : (s.done n).intc = s.intc := rfl
@[simp] theorem State.done_inputs (s : State) (n : Nat) : (s.done n).inputs = s.inputs := rfl
@[simp] theorem State.done_prod (s : State) (n : Nat) : (s.done n).prod = s.prod := rfl
@[simp] theorem State.done_reg (s : State) (n : Nat) (q : Reg) : (s.done n).reg q = s.reg q := rfl
@[simp] theorem State.done_flag (s : State) (n : Nat) (g : Flag) : (s.done n).flag g = s.flag g := rfl

/-! `State.doneHold` -/

@[simp] theorem State.doneHold_regs (s : State) (n : Nat) : (s.doneHold n).regs = s.regs := rfl
@[simp] theorem State.doneHold_pc (s : State) (n : Nat) : (s.doneHold n).pc = s.next n := rfl
@[simp] theorem State.doneHold_sp (s : State) (n : Nat) : (s.doneHold n).sp = s.sp := rfl
@[simp] theorem State.doneHold_psw (s : State) (n : Nat) : (s.doneHold n).psw = s.psw := rfl
@[simp] theorem State.doneHold_pswByteWritten (s : State) (n : Nat) :
    (s.doneHold n).pswByteWritten = s.pswByteWritten := rfl
@[simp] theorem State.doneHold_nmis (s : State) (n : Nat) : (s.doneHold n).nmis = s.nmis := rfl
@[simp] theorem State.doneHold_hold (s : State) (n : Nat) : (s.doneHold n).hold = true := rfl
@[simp] theorem State.doneHold_mode (s : State) (n : Nat) : (s.doneHold n).mode = s.mode := rfl
@[simp] theorem State.doneHold_mem (s : State) (n : Nat) : (s.doneHold n).mem = s.mem := rfl
@[simp] theorem State.doneHold_stored (s : State) (n : Nat) :
    (s.doneHold n).stored = s.stored := rfl
@[simp] theorem State.doneHold_draws (s : State) (n : Nat) : (s.doneHold n).draws = s.draws := rfl
@[simp] theorem State.doneHold_sfrLog (s : State) (n : Nat) :
    (s.doneHold n).sfrLog = s.sfrLog := rfl
@[simp] theorem State.doneHold_intc (s : State) (n : Nat) : (s.doneHold n).intc = s.intc := rfl
@[simp] theorem State.doneHold_inputs (s : State) (n : Nat) :
    (s.doneHold n).inputs = s.inputs := rfl
@[simp] theorem State.doneHold_prod (s : State) (n : Nat) : (s.doneHold n).prod = s.prod := rfl
@[simp] theorem State.doneHold_reg (s : State) (n : Nat) (q : Reg) : (s.doneHold n).reg q = s.reg q := rfl
@[simp] theorem State.doneHold_flag (s : State) (n : Nat) (g : Flag) : (s.doneHold n).flag g = s.flag g := rfl

/-! `State.branchIf` -/

@[simp] theorem State.branchIf_regs (s : State) (b : Bool) (n : Nat) (jd : Byte) :
    (s.branchIf b n jd).regs = s.regs := rfl
@[simp] theorem State.branchIf_pc (s : State) (b : Bool) (n : Nat) (jd : Byte) :
    (s.branchIf b n jd).pc = if b then s.next n + sext16 jd else s.next n := rfl
@[simp] theorem State.branchIf_sp (s : State) (b : Bool) (n : Nat) (jd : Byte) :
    (s.branchIf b n jd).sp = s.sp := rfl
@[simp] theorem State.branchIf_psw (s : State) (b : Bool) (n : Nat) (jd : Byte) :
    (s.branchIf b n jd).psw = s.psw := rfl
@[simp] theorem State.branchIf_pswByteWritten (s : State) (b : Bool) (n : Nat) (jd : Byte) :
    (s.branchIf b n jd).pswByteWritten = s.pswByteWritten := rfl
@[simp] theorem State.branchIf_nmis (s : State) (b : Bool) (n : Nat) (jd : Byte) :
    (s.branchIf b n jd).nmis = s.nmis := rfl
@[simp] theorem State.branchIf_hold (s : State) (b : Bool) (n : Nat) (jd : Byte) :
    (s.branchIf b n jd).hold = false := rfl
@[simp] theorem State.branchIf_mode (s : State) (b : Bool) (n : Nat) (jd : Byte) :
    (s.branchIf b n jd).mode = s.mode := rfl
@[simp] theorem State.branchIf_mem (s : State) (b : Bool) (n : Nat) (jd : Byte) :
    (s.branchIf b n jd).mem = s.mem := rfl
@[simp] theorem State.branchIf_stored (s : State) (b : Bool) (n : Nat) (jd : Byte) :
    (s.branchIf b n jd).stored = s.stored := rfl
@[simp] theorem State.branchIf_draws (s : State) (b : Bool) (n : Nat) (jd : Byte) :
    (s.branchIf b n jd).draws = s.draws := rfl
@[simp] theorem State.branchIf_sfrLog (s : State) (b : Bool) (n : Nat) (jd : Byte) :
    (s.branchIf b n jd).sfrLog = s.sfrLog := rfl
@[simp] theorem State.branchIf_intc (s : State) (b : Bool) (n : Nat) (jd : Byte) :
    (s.branchIf b n jd).intc = s.intc := rfl
@[simp] theorem State.branchIf_inputs (s : State) (b : Bool) (n : Nat) (jd : Byte) :
    (s.branchIf b n jd).inputs = s.inputs := rfl
@[simp] theorem State.branchIf_prod (s : State) (b : Bool) (n : Nat) (jd : Byte) :
    (s.branchIf b n jd).prod = s.prod := rfl
@[simp] theorem State.branchIf_reg (s : State) (b : Bool) (n : Nat) (jd : Byte) (q : Reg) : (s.branchIf b n jd).reg q = s.reg q := rfl
@[simp] theorem State.branchIf_flag (s : State) (b : Bool) (n : Nat) (jd : Byte) (g : Flag) : (s.branchIf b n jd).flag g = s.flag g := rfl

/-! `State.drawn` -/

@[simp] theorem State.drawn_regs (s : State) : (s.drawn).regs = s.regs := rfl
@[simp] theorem State.drawn_pc (s : State) : (s.drawn).pc = s.pc := rfl
@[simp] theorem State.drawn_sp (s : State) : (s.drawn).sp = s.sp := rfl
@[simp] theorem State.drawn_psw (s : State) : (s.drawn).psw = s.psw := rfl
@[simp] theorem State.drawn_pswByteWritten (s : State) :
    (s.drawn).pswByteWritten = s.pswByteWritten := rfl
@[simp] theorem State.drawn_nmis (s : State) : (s.drawn).nmis = s.nmis := rfl
@[simp] theorem State.drawn_hold (s : State) : (s.drawn).hold = s.hold := rfl
@[simp] theorem State.drawn_mode (s : State) : (s.drawn).mode = s.mode := rfl
@[simp] theorem State.drawn_mem (s : State) : (s.drawn).mem = s.mem := rfl
@[simp] theorem State.drawn_stored (s : State) : (s.drawn).stored = s.stored := rfl
@[simp] theorem State.drawn_draws (s : State) : (s.drawn).draws = s.draws + 1 := rfl
@[simp] theorem State.drawn_sfrLog (s : State) : (s.drawn).sfrLog = s.sfrLog := rfl
@[simp] theorem State.drawn_intc (s : State) : (s.drawn).intc = s.intc := rfl
@[simp] theorem State.drawn_inputs (s : State) : (s.drawn).inputs = s.inputs := rfl
@[simp] theorem State.drawn_prod (s : State) : (s.drawn).prod = s.prod := rfl
@[simp] theorem State.drawn_reg (s : State) (q : Reg) : (s.drawn).reg q = s.reg q := rfl
@[simp] theorem State.drawn_flag (s : State) (g : Flag) : (s.drawn).flag g = s.flag g := rfl

/-! `State.storeByte` -/

@[simp] theorem State.storeByte_regs (s : State) (a : Word) (v : Byte) :
    (s.storeByte a v).regs = s.regs := rfl
@[simp] theorem State.storeByte_pc (s : State) (a : Word) (v : Byte) :
    (s.storeByte a v).pc = s.pc := rfl
@[simp] theorem State.storeByte_sp (s : State) (a : Word) (v : Byte) :
    (s.storeByte a v).sp = s.sp := rfl
@[simp] theorem State.storeByte_psw (s : State) (a : Word) (v : Byte) :
    (s.storeByte a v).psw = s.psw := rfl
@[simp] theorem State.storeByte_pswByteWritten (s : State) (a : Word) (v : Byte) :
    (s.storeByte a v).pswByteWritten = s.pswByteWritten := rfl
@[simp] theorem State.storeByte_nmis (s : State) (a : Word) (v : Byte) :
    (s.storeByte a v).nmis = s.nmis := rfl
@[simp] theorem State.storeByte_hold (s : State) (a : Word) (v : Byte) :
    (s.storeByte a v).hold = s.hold := rfl
@[simp] theorem State.storeByte_mode (s : State) (a : Word) (v : Byte) :
    (s.storeByte a v).mode = s.mode := rfl
@[simp] theorem State.storeByte_mem (s : State) (a : Word) (v : Byte) :
    (s.storeByte a v).mem = memPut s.mem a.toNat v := rfl
@[simp] theorem State.storeByte_draws (s : State) (a : Word) (v : Byte) :
    (s.storeByte a v).draws = s.draws := rfl
@[simp] theorem State.storeByte_sfrLog (s : State) (a : Word) (v : Byte) :
    (s.storeByte a v).sfrLog = s.sfrLog := rfl
@[simp] theorem State.storeByte_intc (s : State) (a : Word) (v : Byte) :
    (s.storeByte a v).intc = s.intc := rfl
@[simp] theorem State.storeByte_inputs (s : State) (a : Word) (v : Byte) :
    (s.storeByte a v).inputs = s.inputs := rfl
@[simp] theorem State.storeByte_prod (s : State) (a : Word) (v : Byte) :
    (s.storeByte a v).prod = s.prod := rfl
@[simp] theorem State.storeByte_reg (s : State) (a : Word) (v : Byte) (q : Reg) : (s.storeByte a v).reg q = s.reg q := rfl
@[simp] theorem State.storeByte_flag (s : State) (a : Word) (v : Byte) (g : Flag) : (s.storeByte a v).flag g = s.flag g := rfl

/-! `State.logSfr` -/

@[simp] theorem State.logSfr_regs (s : State) (a : Word) (v : Byte) :
    (s.logSfr a v).regs = s.regs := rfl
@[simp] theorem State.logSfr_pc (s : State) (a : Word) (v : Byte) : (s.logSfr a v).pc = s.pc := rfl
@[simp] theorem State.logSfr_sp (s : State) (a : Word) (v : Byte) : (s.logSfr a v).sp = s.sp := rfl
@[simp] theorem State.logSfr_psw (s : State) (a : Word) (v : Byte) :
    (s.logSfr a v).psw = s.psw := rfl
@[simp] theorem State.logSfr_pswByteWritten (s : State) (a : Word) (v : Byte) :
    (s.logSfr a v).pswByteWritten = s.pswByteWritten := rfl
@[simp] theorem State.logSfr_nmis (s : State) (a : Word) (v : Byte) :
    (s.logSfr a v).nmis = s.nmis := rfl
@[simp] theorem State.logSfr_hold (s : State) (a : Word) (v : Byte) :
    (s.logSfr a v).hold = s.hold := rfl
@[simp] theorem State.logSfr_mode (s : State) (a : Word) (v : Byte) :
    (s.logSfr a v).mode = s.mode := rfl
@[simp] theorem State.logSfr_mem (s : State) (a : Word) (v : Byte) :
    (s.logSfr a v).mem = s.mem := rfl
@[simp] theorem State.logSfr_stored (s : State) (a : Word) (v : Byte) :
    (s.logSfr a v).stored = s.stored := rfl
@[simp] theorem State.logSfr_draws (s : State) (a : Word) (v : Byte) :
    (s.logSfr a v).draws = s.draws := rfl
@[simp] theorem State.logSfr_sfrLog (s : State) (a : Word) (v : Byte) :
    (s.logSfr a v).sfrLog = (a.toNat, v) :: s.sfrLog := rfl
@[simp] theorem State.logSfr_intc (s : State) (a : Word) (v : Byte) :
    (s.logSfr a v).intc = s.intc := rfl
@[simp] theorem State.logSfr_inputs (s : State) (a : Word) (v : Byte) :
    (s.logSfr a v).inputs = s.inputs := rfl
@[simp] theorem State.logSfr_prod (s : State) (a : Word) (v : Byte) :
    (s.logSfr a v).prod = s.prod := rfl
@[simp] theorem State.logSfr_reg (s : State) (a : Word) (v : Byte) (q : Reg) : (s.logSfr a v).reg q = s.reg q := rfl
@[simp] theorem State.logSfr_flag (s : State) (a : Word) (v : Byte) (g : Flag) : (s.logSfr a v).flag g = s.flag g := rfl

/-! Registers and pairs -/

@[simp] theorem Regs.get_set (g : Regs) (r q : Reg) (v : Byte) :
    (g.set r v).get q = if q = r then v else g.get q := by cases r <;> cases q <;> rfl

@[simp] theorem State.setReg_reg (s : State) (r q : Reg) (v : Byte) :
    (s.setReg r v).reg q = if q = r then v else s.reg q := Regs.get_set ..

theorem join_toNat (h l : Byte) : (join h l).toNat = 256 * h.toNat + l.toNat := by
  have := l.isLt
  simp only [join, BitVec.toNat_append, Nat.shiftLeft_eq]
  rw [Nat.mul_comm, show (256:Nat) = 2^8 from rfl, Nat.two_pow_add_eq_or_of_lt this]

theorem hiByte_toNat (w : Word) : (hiByte w).toNat = w.toNat / 256 := by
  have := w.isLt
  simp only [hiByte, BitVec.extractLsb'_toNat, Nat.shiftRight_eq_div_pow]; omega

theorem loByte_toNat (w : Word) : (loByte w).toNat = w.toNat % 256 := by
  simp [loByte, BitVec.extractLsb'_toNat]

@[simp] theorem hiByte_join (h l : Byte) : hiByte (join h l) = h := by
  apply BitVec.eq_of_toNat_eq; rw [hiByte_toNat, join_toNat]; omega

@[simp] theorem loByte_join (h l : Byte) : loByte (join h l) = l := by
  apply BitVec.eq_of_toNat_eq; rw [loByte_toNat, join_toNat]; omega

@[simp] theorem join_hiByte_loByte (w : Word) : join (hiByte w) (loByte w) = w := by
  apply BitVec.eq_of_toNat_eq; rw [join_toNat, hiByte_toNat, loByte_toNat]; omega

@[simp] theorem State.setPair_reg (s : State) (p : RegPair) (w : Word) (q : Reg) :
    (s.setPair p w).reg q =
      if q = pairHigh p then hiByte w else if q = pairLow p then loByte w else s.reg q := by
  cases p <;> cases q <;> rfl

@[simp] theorem State.setPair_pair (s : State) (p q : RegPair) (w : Word) :
    (s.setPair p w).pair q = if q = p then w else s.pair q := by
  cases p <;> cases q <;> simp [State.pair, pairHigh, pairLow]

/-- A pair is its two registers: reading what was written (10_state.md R21). -/
theorem State.setPair_pair_self (s : State) (p : RegPair) (w : Word) :
    (s.setPair p w).pair p = w := by simp

/-! Flags -/

@[simp] theorem pswFlag_pswSetFlag (psw : Byte) (f g : Flag) (v : Bool) :
    pswFlag (pswSetFlag psw f v) g = if g = f then v else pswFlag psw g := by
  cases f <;> cases g <;> cases v <;>
    simp [pswFlag, pswSetFlag, Flag.mask, Flag.bit, pswZBit, pswAcBit, pswCyBit]

@[simp] theorem State.setFlag_flag (s : State) (f g : Flag) (v : Bool) :
    (s.setFlag f v).flag g = if g = f then v else s.flag g := pswFlag_pswSetFlag ..

/-- A flag write keeps every other bit of PSW (10_state.md R41). -/
theorem pswSetFlag_getLsbD (psw : Byte) (f : Flag) (v : Bool) (i : Nat) :
    (pswSetFlag psw f v).getLsbD i = if i = f.bit then v else psw.getLsbD i := by
  by_cases hi : i < 8
  · rcases f with _ | _ | _ | _ <;> cases v <;>
      simp only [pswSetFlag, Flag.mask, Flag.bit, pswZBit, pswAcBit, pswCyBit] <;>
      interval_cases i <;> simp
  · have h8 : 8 ≤ i := by omega
    have hb : i ≠ f.bit := by cases f <;> simp [Flag.bit, pswZBit, pswAcBit, pswCyBit] <;> omega
    rw [if_neg hb, BitVec.getLsbD_of_ge _ _ h8, BitVec.getLsbD_of_ge _ _ h8]

/-- The flags after one of the eight operations (10_state.md R31). -/
theorem pswFlag_pswAlu (psw : Byte) (r : AluResult) (g : Flag) :
    pswFlag (pswAlu psw r) g =
      match g, r.carries with
      | .z, _ => r.z
      | .ac, some (ac, _) => ac
      | .cy, some (_, cy) => cy
      | g, _ => pswFlag psw g := by
  rcases r with ⟨res, z, _ | ⟨ac, cy⟩⟩ <;> cases g <;> simp [pswAlu]

end Sys2Proof.Machine
end

