-- ==== Sys2Proof/Laws/Memory.lean ====
section
/-! SUPPORT. Memory: read after write, the canonical form kept by every operation, and for each
memory primitive one lemma that says all it can do when it answers. -/

namespace Sys2Proof.Machine

/-! ### The canonical list -/

/-- A byte read where it was written is the byte written. -/
@[simp] theorem memGet_memPut_self (m : List Host.Cell) (a : Nat) (v : Byte) :
    memGet (memPut m a v) a = some v := by
  induction m with
  | nil => simp [memPut, memGet]
  | cons c m ih =>
    obtain ⟨k, w⟩ := c
    simp only [memPut]
    split
    · simp [memGet]
    · split
      · simp [memGet]
      · rename_i h; simp [memGet, h, ih]

/-- A write leaves every other address alone. -/
theorem memGet_memPut_ne (m : List Host.Cell) {a b : Nat} (v : Byte) (h : b ≠ a) :
    memGet (memPut m a v) b = memGet m b := by
  induction m with
  | nil => simp [memPut, memGet, Ne.symm h]
  | cons c m ih =>
    obtain ⟨k, w⟩ := c
    simp only [memPut]
    split
    · simp [memGet, Ne.symm h]
    · split
      · rename_i h1 h2; subst h2; simp [memGet, Ne.symm h]
      · simp [memGet, ih]

theorem memGet_memPut (m : List Host.Cell) (a b : Nat) (v : Byte) :
    memGet (memPut m a v) b = if b = a then some v else memGet m b := by
  split
  · rename_i h; subst h; simp
  · rename_i h; exact memGet_memPut_ne m v h

/-- The addresses after a write are the one written and those before. -/
theorem mem_memPut {m : List Host.Cell} {a : Nat} {v : Byte} {c : Host.Cell}
    (h : c ∈ memPut m a v) : c = (a, v) ∨ c ∈ m := by
  induction m with
  | nil => simpa [memPut] using h
  | cons d m ih =>
    obtain ⟨k, w⟩ := d
    simp only [memPut] at h
    split at h
    · simpa using h
    · split at h
      · simp only [List.mem_cons] at h ⊢; tauto
      · simp only [List.mem_cons] at h ⊢
        rcases h with h | h
        · exact .inr (.inl h)
        · rcases ih h with h | h <;> tauto

/-- A write of an address of the space keeps the canonical form. -/
theorem Memory.wf_memPut {m : List Host.Cell} {a : Nat} (v : Byte) (hm : Memory.wf m)
    (ha : a < 65536) : Memory.wf (memPut m a v) := by
  obtain ⟨hs, hb⟩ := hm
  refine ⟨?_, fun c hc => ?_⟩
  · induction m with
    | nil => simp [memPut]
    | cons d m ih =>
      obtain ⟨k, w⟩ := d
      rw [List.pairwise_cons] at hs
      simp only [memPut]
      split
      · rename_i hlt
        refine List.pairwise_cons.2 ⟨fun c hc => ?_, List.pairwise_cons.2 hs⟩
        rcases List.mem_cons.1 hc with rfl | hc
        · exact hlt
        · exact Nat.lt_trans hlt (hs.1 c hc)
      · split
        · rename_i h; subst h
          exact List.pairwise_cons.2 ⟨hs.1, hs.2⟩
        · rename_i h1 h2
          refine List.pairwise_cons.2 ⟨fun c hc => ?_, ih hs.2 fun c hc => hb c (by simp [hc])⟩
          rcases mem_memPut hc with rfl | hc
          · show k < a; omega
          · exact hs.1 c hc
  · rcases mem_memPut hc with rfl | hc
    · exact ha
    · exact hb c hc

/-- Dropping bytes keeps the canonical form. -/
theorem Memory.wf_filter {m : List Host.Cell} (p : Host.Cell → Bool) (hm : Memory.wf m) :
    Memory.wf (m.filter p) :=
  ⟨hm.1.filter p, fun c hc => hm.2 c (List.mem_of_mem_filter hc)⟩

/-- Bytes dropped by address are dropped, the others are kept. -/
theorem memGet_filter (p : Nat → Bool) (m : List Host.Cell) (a : Nat) :
    memGet (m.filter fun c => p c.1) a = if p a then memGet m a else none := by
  induction m with
  | nil => simp [memGet]
  | cons c m ih =>
    obtain ⟨k, w⟩ := c
    by_cases hk : p k
    · simp only [List.filter_cons, hk, if_true, memGet, ih]
      by_cases h : k = a
      · subst h; simp [hk]
      · simp [h]
    · simp only [List.filter_cons, hk, memGet]
      by_cases h : k = a
      · subst h; simp [hk, ih]
      · simp [h, ih]

/-- Placing bytes keeps the canonical form. -/
theorem Memory.wf_placeBytes (bs : List Byte) (a : Word) {m : List Host.Cell}
    (hm : Memory.wf m) : Memory.wf (placeBytes bs a m) := by
  induction bs generalizing a m with
  | nil => exact hm
  | cons b bs ih => exact ih _ (Memory.wf_memPut b hm a.isLt)

/-- Writing a list of bytes of the space keeps the canonical form. -/
theorem Memory.wf_foldl_memPut (l : List Host.Cell) {m : List Host.Cell} (hm : Memory.wf m)
    (hl : ∀ c ∈ l, c.1 < 65536) :
    Memory.wf (l.foldl (fun m c => memPut m c.1 c.2) m) := by
  induction l generalizing m with
  | nil => exact hm
  | cons c l ih =>
    exact ih (Memory.wf_memPut c.2 hm (hl c (by simp))) fun d hd => hl d (by simp [hd])

/-! ### The primitives -/

@[simp] theorem held_listed {s : State} {a : Word} {v : Byte}
    (h : memGet s.mem a.toNat = some v) : s.held a = some v := by
  simp [State.held, h]

@[simp] theorem held_unlisted {s : State} {a : Word} (h : memGet s.mem a.toNat = none) :
    s.held a = unlistedByte s.prod a := by
  simp [State.held, h]

theorem readCell_eq_ok {s : State} {a : Word} {v : Byte} :
    readCell s a = .ok v ↔ s.held a = some v := by
  unfold readCell; split <;> simp_all

/-- RAM, where the stack lies, and ROM, where the vectors lie, hold what is listed. -/
theorem held_of_rom_or_ram {s : State} {a : Word}
    (h : region s.prod a = .rom ∨ region s.prod a = .ram) : s.held a = memGet s.mem a.toNat := by
  rcases h with h | h <;> simp [State.held, unlistedByte, h]

/-- All a byte read can do: read the byte held, or draw a free value from a device SFR. -/
theorem memRead_ok {u : AccessUnit} {a : Word} {s t : State} {v : Byte}
    (h : memRead u a s = .ok (v, t)) :
    (t = s ∧ isCell s.prod a ∧ s.held a = some v) ∨
      (t = s.drawn ∧ v = Config.drawByte s.draws ∧ isDevice s.prod a) := by
  have cell : ∀ {w : Byte × State}, ((readCell s a).map fun v => (v, s)) = .ok w →
      w = (w.1, s) ∧ s.held a = some w.1 := by
    intro w hw
    cases hr : readCell s a with
    | error e => rw [hr] at hw; cases hw
    | ok x => rw [hr] at hw; cases hw; exact ⟨rfl, readCell_eq_ok.1 hr⟩
  unfold memRead at h
  split at h
  · rename_i hr; have := cell h; simp_all [isCell]
  · rename_i hr; have := cell h; simp_all [isCell]
  · rename_i hr; have := cell h; simp_all [isCell]
  · rename_i hr; have := cell h; simp_all [isCell]
  · rename_i hr
    unfold sfrRead at h
    split at h
    · cases h
    · rename_i e he
      split at h
      · cases h
      · split at h
        · cases h
        · split at h
          · have := cell h; simp_all [isCell]
          · cases h; right; simp_all [isDevice]
  · cases h
  · cases h

/-- All a byte write can do: store the byte in RAM, LCD RAM or a storage SFR, or record it for a
device SFR. -/
theorem memWrite_ok {u : AccessUnit} {a : Word} {v : Byte} {s t : State}
    (h : memWrite u a v s = .ok t) :
    (t = s.storeByte a v ∧ isCell s.prod a ∧ region s.prod a ≠ .rom ∧ region s.prod a ≠ .eeprom) ∨
      (t = s.logSfr a v ∧ isDevice s.prod a) := by
  unfold memWrite at h
  split at h
  · cases h
  · cases h
  · rename_i hr; cases h; simp_all [isCell]
  · rename_i hr; cases h; simp_all [isCell]
  · rename_i hr
    unfold sfrWrite at h
    split at h
    · cases h
    · rename_i e he
      split at h
      · cases h
      · split at h
        · cases h
        · split at h <;> cases h <;> simp_all [isCell, isDevice]
  · cases h
  · cases h

theorem Accessed.refl (s : State) (l : List Word) : Accessed s s l :=
  ⟨rfl, rfl, rfl, rfl, rfl, rfl, rfl, rfl, rfl, rfl, rfl, fun _ _ => rfl, id⟩

theorem Accessed.trans {s t u : State} {l k : List Word} (h : Accessed s t l)
    (g : Accessed t u k) : Accessed s u (l ++ k) where
  regs := g.regs.trans h.regs
  pc := g.pc.trans h.pc
  sp := g.sp.trans h.sp
  psw := g.psw.trans h.psw
  pswByteWritten := g.pswByteWritten.trans h.pswByteWritten
  nmis := g.nmis.trans h.nmis
  hold := g.hold.trans h.hold
  mode := g.mode.trans h.mode
  intc := g.intc.trans h.intc
  inputs := g.inputs.trans h.inputs
  prod := g.prod.trans h.prod
  mem b hb := by
    simp only [List.mem_append, not_or] at hb
    exact (g.mem b hb.2).trans (h.mem b hb.1)
  wf hw := g.wf (h.wf hw)

theorem accessed_drawn (s : State) (l : List Word) : Accessed s s.drawn l :=
  ⟨rfl, rfl, rfl, rfl, rfl, rfl, rfl, rfl, rfl, rfl, rfl, fun _ _ => rfl, id⟩

theorem accessed_storeByte (s : State) (a : Word) (v : Byte) :
    Accessed s (s.storeByte a v) [a] where
  regs := rfl
  pc := rfl
  sp := rfl
  psw := rfl
  pswByteWritten := rfl
  nmis := rfl
  hold := rfl
  mode := rfl
  intc := rfl
  inputs := rfl
  prod := rfl
  mem b hb := memGet_memPut_ne _ _ fun he => hb (by simp [BitVec.eq_of_toNat_eq he])
  wf hw := Memory.wf_memPut _ hw a.isLt

/-- A store is noted under `FETCH_FROM_RAM`, and only then. -/
theorem noted_storeByte (s : State) (a : Word) (v : Byte) :
    Noted s (s.storeByte a v).stored [a] := by
  unfold Noted State.storeByte
  cases hf : s.prod.fetchFromRam <;> cases hc : s.stored.contains a.toNat <;> simp_all
  · intro n
    exact ⟨fun h => h.elim (fun e => .inr e.symm) .inl, fun h => h.elim .inr (fun e => .inl e.symm)⟩

/-- The frame of a byte read. -/
theorem memRead_accessed {u : AccessUnit} {a : Word} {s t : State} {v : Byte}
    (h : memRead u a s = .ok (v, t)) : Accessed s t [] := by
  rcases memRead_ok h with ⟨rfl, -, -⟩ | ⟨rfl, -, -⟩
  · exact .refl ..
  · exact accessed_drawn ..

/-- A byte read leaves memory as it was. -/
theorem memRead_mem {u : AccessUnit} {a : Word} {s t : State} {v : Byte}
    (h : memRead u a s = .ok (v, t)) : t.mem = s.mem := by
  rcases memRead_ok h with ⟨rfl, -, -⟩ | ⟨rfl, -, -⟩ <;> rfl

/-- The frame of a byte write. -/
theorem memWrite_accessed {u : AccessUnit} {a : Word} {v : Byte} {s t : State}
    (h : memWrite u a v s = .ok t) : Accessed s t [a] := by
  rcases memWrite_ok h with ⟨rfl, -, -, -⟩ | ⟨rfl, -⟩
  · exact accessed_storeByte ..
  · exact ⟨rfl, rfl, rfl, rfl, rfl, rfl, rfl, rfl, rfl, rfl, rfl, fun _ _ => rfl, id⟩

/-- A two-byte read is two byte reads, low byte first. -/
theorem memRead2_ok {a : Word} {s t : State} {w : Word} (h : memRead2 a s = .ok (w, t)) :
    ∃ lo hi s1, memRead .word a s = .ok (lo, s1) ∧ memRead .word (a + 1#16) s1 = .ok (hi, t) ∧
      w = join hi lo := by
  unfold memRead2 at h
  cases h1 : memRead .word a s with
  | error e => rw [h1] at h; cases h
  | ok r =>
    obtain ⟨lo, s1⟩ := r
    rw [h1] at h
    change (do let (hi, s) ← memRead .word (a + 1#16) s1; return (join hi lo, s) : Res _) = _ at h
    cases h2 : memRead .word (a + 1#16) s1 with
    | error e => rw [h2] at h; cases h
    | ok r2 =>
      obtain ⟨hi, s2⟩ := r2
      rw [h2] at h
      cases h
      exact ⟨lo, hi, s1, rfl, h2, rfl⟩

theorem memRead2_accessed {a : Word} {s t : State} {w : Word} (h : memRead2 a s = .ok (w, t)) :
    Accessed s t [] := by
  obtain ⟨lo, hi, s1, h1, h2, -⟩ := memRead2_ok h
  exact (memRead_accessed h1).trans (memRead_accessed h2)

/-- A two-byte write is two byte writes, low byte first. -/
theorem memWrite2_ok {a : Word} {s t : State} {w : Word} (h : memWrite2 a w s = .ok t) :
    ∃ s1, memWrite .word a (loByte w) s = .ok s1 ∧
      memWrite .word (a + 1#16) (hiByte w) s1 = .ok t := by
  unfold memWrite2 at h
  cases h1 : memWrite .word a (loByte w) s with
  | error e => rw [h1] at h; cases h
  | ok s1 => rw [h1] at h; exact ⟨s1, rfl, h⟩

theorem memWrite2_accessed {a : Word} {s t : State} {w : Word} (h : memWrite2 a w s = .ok t) :
    Accessed s t [a, a + 1#16] := by
  obtain ⟨s1, h1, h2⟩ := memWrite2_ok h
  exact (memWrite_accessed h1).trans (memWrite_accessed h2)

/-- The platform's input keeps the canonical form. -/
theorem applyInput_wf (inp : PlatformInput) {s : State} (hs : Memory.wf s.mem) :
    Memory.wf (applyInput inp s).mem := by
  refine Memory.wf_foldl_memPut _ hs fun c hc => ?_
  have := (List.mem_filter.1 hc).2
  simp only [List.any_eq_true, Bool.and_eq_true, beq_iff_eq] at this
  obtain ⟨e, -, ⟨he, -⟩, -⟩ := this
  rw [← he]; exact e.addr.isLt

end Sys2Proof.Machine
end

