-- ==== Sys2Proof/Laws/Ops.lean ====
section
/-! SUPPORT. For each shared operation over the stack, PSW, interrupts and the shapes of the
instruction rules, one lemma that says all it can do when it answers a value. -/

namespace Sys2Proof.Machine

/-- A bind answers exactly when both of its parts do. -/
theorem res_bind_ok {α β : Type} {x : Res α} {f : α → Res β} {r : β} :
    (x >>= f) = .ok r ↔ ∃ a, x = .ok a ∧ f a = .ok r := by
  cases x with
  | error e => simp [bind, Except.bind]
  | ok a => simp [bind, Except.bind]

/-- A map answers exactly when its argument does. -/
theorem res_map_ok {α β : Type} {x : Res α} {f : α → β} {r : β} :
    x.map f = .ok r ↔ ∃ a, x = .ok a ∧ f a = r := by
  cases x with
  | error e => simp [Except.map]
  | ok a => simp [Except.map]

@[simp] theorem toOutcome_ok (s : State) : toOutcome (.ok s) = .next s := rfl

/-- An operation gives a next state exactly when it answers that state. -/
theorem toOutcome_eq_next {x : Res State} {t : State} : toOutcome x = .next t ↔ x = .ok t := by
  rcases x with ⟨⟨r⟩ | ⟨r⟩⟩ | s <;> simp [toOutcome]

/-! ### PSW -/

/-- A PSW read takes the four flags from PSW. -/
theorem pswRead_flag (s : State) (f : Flag) : pswFlag (pswRead s).1 f = s.flag f := by
  unfold pswRead
  split <;> cases f <;>
    simp [withNonFlag, pswFlag, State.flag, flagMask, Flag.mask, Flag.bit, pswZBit, pswAcBit,
      pswCyBit]

/-- A PSW read changes nothing but the counter of free values. -/
theorem pswRead_accessed (s : State) : Accessed s (pswRead s).2 [] := by
  unfold pswRead
  split
  · exact accessed_drawn ..
  · exact .refl ..

/-- A PSW read leaves memory as it was. -/
theorem pswRead_mem (s : State) : (pswRead s).2.mem = s.mem := by
  unfold pswRead; split <;> rfl

/-- A PSW write sets the four flags to the byte's bits. -/
theorem pswWrite_flag (v : Byte) (s : State) (f : Flag) :
    (pswWrite v s).flag f = pswFlag v f := by
  unfold pswWrite
  split <;> cases f <;>
    simp [withNonFlag, pswFlag, State.flag, flagMask, Flag.mask, Flag.bit, pswZBit, pswAcBit,
      pswCyBit]

/-- All a PSW write can do: PSW, its byte-written mark, the counter of free values. -/
theorem pswWrite_eq (v : Byte) (s : State) :
    ∃ p n, pswWrite v s = { s with psw := p, pswByteWritten := true, draws := n } := by
  unfold pswWrite; split <;> exact ⟨_, _, rfl⟩

/-- A PSW write keeps the hard-wired bits. -/
theorem pswWrite_shape (v : Byte) (s : State) : PswShape (pswWrite v s) := by
  intro h
  have hp : s.prod.pswFixed = .hardwired := by
    obtain ⟨p, n, e⟩ := pswWrite_eq v s; rw [e] at h; exact h
  simp [pswWrite, hp, withNonFlag, nonFlagReset, flagMask, Flag.mask, Flag.bit, pswZBit,
    pswAcBit, pswCyBit]

/-! ### The stack -/

/-- All a push can do: move SP down by one and write the byte there, inside high-speed RAM. -/
theorem push8_ok {v : Byte} {s t : State} (h : push8 v s = .ok t) :
    inStackRam s.prod (s.sp - 1#16) = true ∧
      memWrite .byte (s.sp - 1#16) v { s with sp := s.sp - 1#16 } = .ok t := by
  unfold push8 at h
  by_cases hr : inStackRam s.prod (s.sp - 1#16) = true
  · simp only [hr, if_true] at h; exact ⟨hr, h⟩
  · simp only [hr] at h; cases h

/-- All a pop can do: read the byte at SP, inside high-speed RAM, and move SP up by one. -/
theorem pop8_ok {s t : State} {v : Byte} (h : pop8 s = .ok (v, t)) :
    inStackRam s.prod s.sp = true ∧
      ∃ s1, memRead .byte s.sp s = .ok (v, s1) ∧ t = { s1 with sp := s1.sp + 1#16 } := by
  unfold pop8 at h
  by_cases hr : inStackRam s.prod s.sp = true
  · simp only [hr, if_true] at h
    obtain ⟨⟨w, s1⟩, h1, h2⟩ := res_map_ok.1 h
    cases h2
    exact ⟨hr, s1, h1, rfl⟩
  · simp only [hr] at h; cases h

/-- A 16-bit push is two pushes, upper byte first. -/
theorem push16_ok {w : Word} {s t : State} (h : push16 w s = .ok t) :
    ∃ s1, push8 (hiByte w) s = .ok s1 ∧ push8 (loByte w) s1 = .ok t := res_bind_ok.1 h

/-- A 16-bit pop is two pops, lower byte first. -/
theorem pop16_ok {s t : State} {w : Word} (h : pop16 s = .ok (w, t)) :
    ∃ lo hi s1, pop8 s = .ok (lo, s1) ∧ pop8 s1 = .ok (hi, t) ∧ w = join hi lo := by
  obtain ⟨⟨lo, s1⟩, h1, h2⟩ := res_bind_ok.1 h
  obtain ⟨⟨hi, s2⟩, h3, h4⟩ := res_bind_ok.1 h2
  cases h4
  exact ⟨lo, hi, s1, h1, h3, rfl⟩

/-! ### Interrupts -/

/-- All an acknowledge can do (60_exceptions.md R350). -/
theorem acknowledge_ok {v : Word} {nmi keep : Bool} {s t : State}
    (h : acknowledge v nmi keep s = .ok t) :
    ∃ s1 s2 target s3,
      push8 (pswRead s).1 (pswRead s).2 = .ok s1 ∧ push16 s1.pc s1 = .ok s2 ∧
      memRead2 v { s2.setFlag .ie false with nmis := s2.nmis || nmi } = .ok (target, s3) ∧
      t = { s3 with pc := target, mode := .run, intc := acknowledged v keep s3.intc } := by
  obtain ⟨s1, h1, h2⟩ := res_bind_ok.1 h
  obtain ⟨s2, h3, h4⟩ := res_bind_ok.1 h2
  obtain ⟨⟨target, s3⟩, h5, h6⟩ := res_bind_ok.1 h4
  cases h6
  exact ⟨s1, s2, target, s3, h1, h3, h5, rfl⟩

/-- All a return from interrupt can do (46_call_return.md R283). -/
theorem interruptReturn_ok {s t : State} (h : interruptReturn s = .ok t) :
    ∃ target s1 p s2, pop16 s = .ok (target, s1) ∧ pop8 s1 = .ok (p, s2) ∧
      t = ({ pswWrite p s2 with nmis := false }).goTo target true := by
  obtain ⟨⟨target, s1⟩, h1, h2⟩ := res_bind_ok.1 h
  obtain ⟨⟨p, s2⟩, h3, h4⟩ := res_bind_ok.1 h2
  cases h4
  exact ⟨target, s1, p, s2, h1, h3, rfl⟩

/-! ### The shapes of the instruction rules -/

theorem loadA_ok {ea : Word} {n : Nat} {s t : State} (h : loadA ea n s = .ok t) :
    ∃ v s1, memRead .byte ea s = .ok (v, s1) ∧ t = (s1.setReg .a v).done n := by
  obtain ⟨⟨v, s1⟩, h1, h2⟩ := res_bind_ok.1 h
  cases h2; exact ⟨v, s1, h1, rfl⟩

theorem storeAt_ok {ea : Word} {v : Byte} {n : Nat} {s t : State}
    (h : storeAt ea v n s = .ok t) :
    ∃ s1, memWrite .byte ea v s = .ok s1 ∧ t = s1.done n := by
  obtain ⟨s1, h1, h2⟩ := res_bind_ok.1 h
  cases h2; exact ⟨s1, h1, rfl⟩

theorem xchA_ok {ea : Word} {n : Nat} {s t : State} (h : xchA ea n s = .ok t) :
    ∃ v s1 s2, memRead .byte ea s = .ok (v, s1) ∧ memWrite .byte ea (s1.reg .a) s1 = .ok s2 ∧
      t = (s2.setReg .a v).done n := by
  obtain ⟨⟨v, s1⟩, h1, h2⟩ := res_bind_ok.1 h
  obtain ⟨s2, h3, h4⟩ := res_bind_ok.1 h2
  cases h4; exact ⟨v, s1, s2, h1, h3, rfl⟩

theorem aluMem_ok {op : AluOp} {ea : Word} {n : Nat} {s t : State}
    (h : aluMem op ea n s = .ok t) :
    ∃ v s1, memRead .byte ea s = .ok (v, s1) ∧ t = aluA op v n s1 := by
  obtain ⟨⟨v, s1⟩, h1, h2⟩ := res_bind_ok.1 h
  cases h2; exact ⟨v, s1, h1, rfl⟩

theorem aluAt_ok {op : AluOp} {ea : Word} {data : Byte} {n : Nat} {s t : State}
    (h : aluAt op ea data n s = .ok t) :
    ∃ v s1 s2, memRead .byte ea s = .ok (v, s1) ∧
      (if op.stores then memWrite .byte ea (aluEval op v data (s1.flag .cy)).res s1 = .ok s2
        else s2 = s1) ∧
      t = (s2.setAlu (aluEval op v data (s1.flag .cy))).done n := by
  obtain ⟨⟨v, s1⟩, h1, h2⟩ := res_bind_ok.1 h
  obtain ⟨s2, h3, h4⟩ := res_bind_ok.1 h2
  cases h4
  refine ⟨v, s1, s2, h1, ?_, rfl⟩
  unfold writeIf at h3
  by_cases hs : op.stores = true
  · simpa [hs] using h3
  · simp only [hs] at h3 ⊢; cases h3; rfl

theorem incDecAt_ok {f : Byte → Arith8} {ea : Word} {n : Nat} {s t : State}
    (h : incDecAt f ea n s = .ok t) :
    ∃ v s1 s2, memRead .byte ea s = .ok (v, s1) ∧ memWrite .byte ea (f v).res s1 = .ok s2 ∧
      t = (s2.setZAc (f v)).done n := by
  obtain ⟨⟨v, s1⟩, h1, h2⟩ := res_bind_ok.1 h
  obtain ⟨s2, h3, h4⟩ := res_bind_ok.1 h2
  cases h4; exact ⟨v, s1, s2, h1, h3, rfl⟩

theorem modifyBitAt_ok {f : Byte → Byte} {ea : Word} {n : Nat} {s t : State}
    (h : modifyBitAt f ea n s = .ok t) :
    ∃ v s1 s2, memRead .bit ea s = .ok (v, s1) ∧ memWrite .bit ea (f v) s1 = .ok s2 ∧
      t = s2.done n := by
  obtain ⟨⟨v, s1⟩, h1, h2⟩ := res_bind_ok.1 h
  obtain ⟨s2, h3, h4⟩ := res_bind_ok.1 h2
  cases h4; exact ⟨v, s1, s2, h1, h3, rfl⟩

theorem branchOnBitAt_ok {want : Bool} {ea : Word} {b : BitVec 3} {n : Nat} {jd : Byte}
    {s t : State} (h : branchOnBitAt want ea b n jd s = .ok t) :
    ∃ v s1, memRead .bit ea s = .ok (v, s1) ∧ t = s1.branchIf (testBit v b == want) n jd := by
  obtain ⟨⟨v, s1⟩, h1, h2⟩ := res_bind_ok.1 h
  cases h2; exact ⟨v, s1, h1, rfl⟩

end Sys2Proof.Machine
end

