-- ==== Sys2Proof/Laws/PerInstr.lean ====
section
/-! SUPPORT. Statements made per instruction, one lemma per constructor. -/

namespace Sys2Proof.Laws

/-- The byte count of every operand form, transcribed from the "Byte" column
(70_reset_and_hazards.md R382). -/
def formLength : Instr → Nat
  | .movRByte _ _ => 3
  | .movSaddrByte _ _ => 3
  | .movSfrByte _ _ => 3
  | .movAR _ => 2
  | .movRA _ => 2
  | .movASaddr _ => 2
  | .movSaddrA _ => 2
  | .movASfr _ => 2
  | .movSfrA _ => 2
  | .movAAddr16 _ => 3
  | .movAddr16A _ => 3
  | .movPswByte _ => 3
  | .movAPsw => 2
  | .movPswA => 2
  | .movADe => 1
  | .movDeA => 1
  | .movAHl => 1
  | .movHlA => 1
  | .movAHlb _ => 2
  | .movHlbA _ => 2
  | .xchAX => 1
  | .xchAR _ => 2
  | .xchASaddr _ => 2
  | .xchASfr _ => 2
  | .xchADe => 1
  | .xchAHl => 1
  | .xchAHlb _ => 2
  | .movwRpWord _ _ => 3
  | .movwAxSaddrp _ => 2
  | .movwSaddrpAx _ => 2
  | .movwAxRp _ => 1
  | .movwRpAx _ => 1
  | .xchwAxRp _ => 1
  | .addAByte _ => 2
  | .addSaddrByte _ _ => 3
  | .addAR _ => 2
  | .addASaddr _ => 2
  | .addAAddr16 _ => 3
  | .addAHl => 1
  | .addAHlb _ => 2
  | .addcAByte _ => 2
  | .addcSaddrByte _ _ => 3
  | .addcAR _ => 2
  | .addcASaddr _ => 2
  | .addcAAddr16 _ => 3
  | .addcAHl => 1
  | .addcAHlb _ => 2
  | .subAByte _ => 2
  | .subSaddrByte _ _ => 3
  | .subAR _ => 2
  | .subASaddr _ => 2
  | .subAAddr16 _ => 3
  | .subAHl => 1
  | .subAHlb _ => 2
  | .subcAByte _ => 2
  | .subcSaddrByte _ _ => 3
  | .subcAR _ => 2
  | .subcASaddr _ => 2
  | .subcAAddr16 _ => 3
  | .subcAHl => 1
  | .subcAHlb _ => 2
  | .andAByte _ => 2
  | .andSaddrByte _ _ => 3
  | .andAR _ => 2
  | .andASaddr _ => 2
  | .andAAddr16 _ => 3
  | .andAHl => 1
  | .andAHlb _ => 2
  | .orAByte _ => 2
  | .orSaddrByte _ _ => 3
  | .orAR _ => 2
  | .orASaddr _ => 2
  | .orAAddr16 _ => 3
  | .orAHl => 1
  | .orAHlb _ => 2
  | .xorAByte _ => 2
  | .xorSaddrByte _ _ => 3
  | .xorAR _ => 2
  | .xorASaddr _ => 2
  | .xorAAddr16 _ => 3
  | .xorAHl => 1
  | .xorAHlb _ => 2
  | .cmpAByte _ => 2
  | .cmpSaddrByte _ _ => 3
  | .cmpAR _ => 2
  | .cmpASaddr _ => 2
  | .cmpAAddr16 _ => 3
  | .cmpAHl => 1
  | .cmpAHlb _ => 2
  | .addwAxWord _ => 3
  | .subwAxWord _ => 3
  | .cmpwAxWord _ => 3
  | .incR _ => 2
  | .incSaddr _ => 2
  | .decR _ => 2
  | .decSaddr _ => 2
  | .incwRp _ => 1
  | .decwRp _ => 1
  | .ror => 1
  | .rol => 1
  | .rorc => 1
  | .rolc => 1
  | .set1Saddr _ _ => 3
  | .set1Sfr _ _ => 3
  | .set1A _ => 2
  | .set1Psw _ => 3
  | .set1Hl _ => 2
  | .clr1Saddr _ _ => 3
  | .clr1Sfr _ _ => 3
  | .clr1A _ => 2
  | .clr1Psw _ => 3
  | .clr1Hl _ => 2
  | .set1Cy => 1
  | .clr1Cy => 1
  | .not1Cy => 1
  | .callAddr16 _ => 3
  | .callt _ => 1
  | .ret => 1
  | .reti => 1
  | .pushPsw => 1
  | .pushRp _ => 1
  | .popPsw => 1
  | .popRp _ => 1
  | .movwSpAx => 2
  | .movwAxSp => 2
  | .brAddr16 _ => 3
  | .brRel _ => 2
  | .brAx => 1
  | .bc _ => 2
  | .bnc _ => 2
  | .bz _ => 2
  | .bnz _ => 2
  | .btSaddr _ _ _ => 4
  | .btSfr _ _ _ => 4
  | .btA _ _ => 3
  | .btPsw _ _ => 4
  | .bfSaddr _ _ _ => 4
  | .bfSfr _ _ _ => 4
  | .bfA _ _ => 3
  | .bfPsw _ _ => 4
  | .dbnzB _ => 2
  | .dbnzC _ => 2
  | .dbnzSaddr _ _ => 3
  | .nop => 1
  | .ei => 3
  | .di => 3
  | .halt => 1
  | .stop => 1

/-- The encoding of an instruction has the byte count the operation list gives its form
(30_encoding.md R110, 70_reset_and_hazards.md R382). -/
def EncodeLength.Statement (i : Instr) : Prop := (encode i).length = formLength i

theorem EncodeLength.movRByte (r : Reg) (data : Byte) :
    EncodeLength.Statement (.movRByte r data) := rfl
theorem EncodeLength.movSaddrByte (so : Byte) (data : Byte) :
    EncodeLength.Statement (.movSaddrByte so data) := rfl
theorem EncodeLength.movSfrByte (fo : Byte) (data : Byte) :
    EncodeLength.Statement (.movSfrByte fo data) := rfl
theorem EncodeLength.movAR (r : Reg) : EncodeLength.Statement (.movAR r) := rfl
theorem EncodeLength.movRA (r : Reg) : EncodeLength.Statement (.movRA r) := rfl
theorem EncodeLength.movASaddr (so : Byte) : EncodeLength.Statement (.movASaddr so) := rfl
theorem EncodeLength.movSaddrA (so : Byte) : EncodeLength.Statement (.movSaddrA so) := rfl
theorem EncodeLength.movASfr (fo : Byte) : EncodeLength.Statement (.movASfr fo) := rfl
theorem EncodeLength.movSfrA (fo : Byte) : EncodeLength.Statement (.movSfrA fo) := rfl
theorem EncodeLength.movAAddr16 (addr : Word) : EncodeLength.Statement (.movAAddr16 addr) := rfl
theorem EncodeLength.movAddr16A (addr : Word) : EncodeLength.Statement (.movAddr16A addr) := rfl
theorem EncodeLength.movPswByte (data : Byte) : EncodeLength.Statement (.movPswByte data) := rfl
theorem EncodeLength.movAPsw : EncodeLength.Statement (.movAPsw) := rfl
theorem EncodeLength.movPswA : EncodeLength.Statement (.movPswA) := rfl
theorem EncodeLength.movADe : EncodeLength.Statement (.movADe) := rfl
theorem EncodeLength.movDeA : EncodeLength.Statement (.movDeA) := rfl
theorem EncodeLength.movAHl : EncodeLength.Statement (.movAHl) := rfl
theorem EncodeLength.movHlA : EncodeLength.Statement (.movHlA) := rfl
theorem EncodeLength.movAHlb (data : Byte) : EncodeLength.Statement (.movAHlb data) := rfl
theorem EncodeLength.movHlbA (data : Byte) : EncodeLength.Statement (.movHlbA data) := rfl
theorem EncodeLength.xchAX : EncodeLength.Statement (.xchAX) := rfl
theorem EncodeLength.xchAR (r : Reg) : EncodeLength.Statement (.xchAR r) := rfl
theorem EncodeLength.xchASaddr (so : Byte) : EncodeLength.Statement (.xchASaddr so) := rfl
theorem EncodeLength.xchASfr (fo : Byte) : EncodeLength.Statement (.xchASfr fo) := rfl
theorem EncodeLength.xchADe : EncodeLength.Statement (.xchADe) := rfl
theorem EncodeLength.xchAHl : EncodeLength.Statement (.xchAHl) := rfl
theorem EncodeLength.xchAHlb (data : Byte) : EncodeLength.Statement (.xchAHlb data) := rfl
theorem EncodeLength.movwRpWord (rp : RegPair) (word : Word) :
    EncodeLength.Statement (.movwRpWord rp word) := rfl
theorem EncodeLength.movwAxSaddrp (so : Byte) : EncodeLength.Statement (.movwAxSaddrp so) := rfl
theorem EncodeLength.movwSaddrpAx (so : Byte) : EncodeLength.Statement (.movwSaddrpAx so) := rfl
theorem EncodeLength.movwAxRp (rp : RegPair) : EncodeLength.Statement (.movwAxRp rp) := rfl
theorem EncodeLength.movwRpAx (rp : RegPair) : EncodeLength.Statement (.movwRpAx rp) := rfl
theorem EncodeLength.xchwAxRp (rp : RegPair) : EncodeLength.Statement (.xchwAxRp rp) := rfl
theorem EncodeLength.addAByte (data : Byte) : EncodeLength.Statement (.addAByte data) := rfl
theorem EncodeLength.addSaddrByte (so : Byte) (data : Byte) :
    EncodeLength.Statement (.addSaddrByte so data) := rfl
theorem EncodeLength.addAR (r : Reg) : EncodeLength.Statement (.addAR r) := rfl
theorem EncodeLength.addASaddr (so : Byte) : EncodeLength.Statement (.addASaddr so) := rfl
theorem EncodeLength.addAAddr16 (addr : Word) : EncodeLength.Statement (.addAAddr16 addr) := rfl
theorem EncodeLength.addAHl : EncodeLength.Statement (.addAHl) := rfl
theorem EncodeLength.addAHlb (data : Byte) : EncodeLength.Statement (.addAHlb data) := rfl
theorem EncodeLength.addcAByte (data : Byte) : EncodeLength.Statement (.addcAByte data) := rfl
theorem EncodeLength.addcSaddrByte (so : Byte) (data : Byte) :
    EncodeLength.Statement (.addcSaddrByte so data) := rfl
theorem EncodeLength.addcAR (r : Reg) : EncodeLength.Statement (.addcAR r) := rfl
theorem EncodeLength.addcASaddr (so : Byte) : EncodeLength.Statement (.addcASaddr so) := rfl
theorem EncodeLength.addcAAddr16 (addr : Word) : EncodeLength.Statement (.addcAAddr16 addr) := rfl
theorem EncodeLength.addcAHl : EncodeLength.Statement (.addcAHl) := rfl
theorem EncodeLength.addcAHlb (data : Byte) : EncodeLength.Statement (.addcAHlb data) := rfl
theorem EncodeLength.subAByte (data : Byte) : EncodeLength.Statement (.subAByte data) := rfl
theorem EncodeLength.subSaddrByte (so : Byte) (data : Byte) :
    EncodeLength.Statement (.subSaddrByte so data) := rfl
theorem EncodeLength.subAR (r : Reg) : EncodeLength.Statement (.subAR r) := rfl
theorem EncodeLength.subASaddr (so : Byte) : EncodeLength.Statement (.subASaddr so) := rfl
theorem EncodeLength.subAAddr16 (addr : Word) : EncodeLength.Statement (.subAAddr16 addr) := rfl
theorem EncodeLength.subAHl : EncodeLength.Statement (.subAHl) := rfl
theorem EncodeLength.subAHlb (data : Byte) : EncodeLength.Statement (.subAHlb data) := rfl
theorem EncodeLength.subcAByte (data : Byte) : EncodeLength.Statement (.subcAByte data) := rfl
theorem EncodeLength.subcSaddrByte (so : Byte) (data : Byte) :
    EncodeLength.Statement (.subcSaddrByte so data) := rfl
theorem EncodeLength.subcAR (r : Reg) : EncodeLength.Statement (.subcAR r) := rfl
theorem EncodeLength.subcASaddr (so : Byte) : EncodeLength.Statement (.subcASaddr so) := rfl
theorem EncodeLength.subcAAddr16 (addr : Word) : EncodeLength.Statement (.subcAAddr16 addr) := rfl
theorem EncodeLength.subcAHl : EncodeLength.Statement (.subcAHl) := rfl
theorem EncodeLength.subcAHlb (data : Byte) : EncodeLength.Statement (.subcAHlb data) := rfl
theorem EncodeLength.andAByte (data : Byte) : EncodeLength.Statement (.andAByte data) := rfl
theorem EncodeLength.andSaddrByte (so : Byte) (data : Byte) :
    EncodeLength.Statement (.andSaddrByte so data) := rfl
theorem EncodeLength.andAR (r : Reg) : EncodeLength.Statement (.andAR r) := rfl
theorem EncodeLength.andASaddr (so : Byte) : EncodeLength.Statement (.andASaddr so) := rfl
theorem EncodeLength.andAAddr16 (addr : Word) : EncodeLength.Statement (.andAAddr16 addr) := rfl
theorem EncodeLength.andAHl : EncodeLength.Statement (.andAHl) := rfl
theorem EncodeLength.andAHlb (data : Byte) : EncodeLength.Statement (.andAHlb data) := rfl
theorem EncodeLength.orAByte (data : Byte) : EncodeLength.Statement (.orAByte data) := rfl
theorem EncodeLength.orSaddrByte (so : Byte) (data : Byte) :
    EncodeLength.Statement (.orSaddrByte so data) := rfl
theorem EncodeLength.orAR (r : Reg) : EncodeLength.Statement (.orAR r) := rfl
theorem EncodeLength.orASaddr (so : Byte) : EncodeLength.Statement (.orASaddr so) := rfl
theorem EncodeLength.orAAddr16 (addr : Word) : EncodeLength.Statement (.orAAddr16 addr) := rfl
theorem EncodeLength.orAHl : EncodeLength.Statement (.orAHl) := rfl
theorem EncodeLength.orAHlb (data : Byte) : EncodeLength.Statement (.orAHlb data) := rfl
theorem EncodeLength.xorAByte (data : Byte) : EncodeLength.Statement (.xorAByte data) := rfl
theorem EncodeLength.xorSaddrByte (so : Byte) (data : Byte) :
    EncodeLength.Statement (.xorSaddrByte so data) := rfl
theorem EncodeLength.xorAR (r : Reg) : EncodeLength.Statement (.xorAR r) := rfl
theorem EncodeLength.xorASaddr (so : Byte) : EncodeLength.Statement (.xorASaddr so) := rfl
theorem EncodeLength.xorAAddr16 (addr : Word) : EncodeLength.Statement (.xorAAddr16 addr) := rfl
theorem EncodeLength.xorAHl : EncodeLength.Statement (.xorAHl) := rfl
theorem EncodeLength.xorAHlb (data : Byte) : EncodeLength.Statement (.xorAHlb data) := rfl
theorem EncodeLength.cmpAByte (data : Byte) : EncodeLength.Statement (.cmpAByte data) := rfl
theorem EncodeLength.cmpSaddrByte (so : Byte) (data : Byte) :
    EncodeLength.Statement (.cmpSaddrByte so data) := rfl
theorem EncodeLength.cmpAR (r : Reg) : EncodeLength.Statement (.cmpAR r) := rfl
theorem EncodeLength.cmpASaddr (so : Byte) : EncodeLength.Statement (.cmpASaddr so) := rfl
theorem EncodeLength.cmpAAddr16 (addr : Word) : EncodeLength.Statement (.cmpAAddr16 addr) := rfl
theorem EncodeLength.cmpAHl : EncodeLength.Statement (.cmpAHl) := rfl
theorem EncodeLength.cmpAHlb (data : Byte) : EncodeLength.Statement (.cmpAHlb data) := rfl
theorem EncodeLength.addwAxWord (word : Word) : EncodeLength.Statement (.addwAxWord word) := rfl
theorem EncodeLength.subwAxWord (word : Word) : EncodeLength.Statement (.subwAxWord word) := rfl
theorem EncodeLength.cmpwAxWord (word : Word) : EncodeLength.Statement (.cmpwAxWord word) := rfl
theorem EncodeLength.incR (r : Reg) : EncodeLength.Statement (.incR r) := rfl
theorem EncodeLength.incSaddr (so : Byte) : EncodeLength.Statement (.incSaddr so) := rfl
theorem EncodeLength.decR (r : Reg) : EncodeLength.Statement (.decR r) := rfl
theorem EncodeLength.decSaddr (so : Byte) : EncodeLength.Statement (.decSaddr so) := rfl
theorem EncodeLength.incwRp (rp : RegPair) : EncodeLength.Statement (.incwRp rp) := rfl
theorem EncodeLength.decwRp (rp : RegPair) : EncodeLength.Statement (.decwRp rp) := rfl
theorem EncodeLength.ror : EncodeLength.Statement (.ror) := rfl
theorem EncodeLength.rol : EncodeLength.Statement (.rol) := rfl
theorem EncodeLength.rorc : EncodeLength.Statement (.rorc) := rfl
theorem EncodeLength.rolc : EncodeLength.Statement (.rolc) := rfl
theorem EncodeLength.set1Saddr (b : BitVec 3) (so : Byte) :
    EncodeLength.Statement (.set1Saddr b so) := rfl
theorem EncodeLength.set1Sfr (b : BitVec 3) (fo : Byte) :
    EncodeLength.Statement (.set1Sfr b fo) := rfl
theorem EncodeLength.set1A (b : BitVec 3) : EncodeLength.Statement (.set1A b) := rfl
theorem EncodeLength.set1Psw (b : BitVec 3) : EncodeLength.Statement (.set1Psw b) := rfl
theorem EncodeLength.set1Hl (b : BitVec 3) : EncodeLength.Statement (.set1Hl b) := rfl
theorem EncodeLength.clr1Saddr (b : BitVec 3) (so : Byte) :
    EncodeLength.Statement (.clr1Saddr b so) := rfl
theorem EncodeLength.clr1Sfr (b : BitVec 3) (fo : Byte) :
    EncodeLength.Statement (.clr1Sfr b fo) := rfl
theorem EncodeLength.clr1A (b : BitVec 3) : EncodeLength.Statement (.clr1A b) := rfl
theorem EncodeLength.clr1Psw (b : BitVec 3) : EncodeLength.Statement (.clr1Psw b) := rfl
theorem EncodeLength.clr1Hl (b : BitVec 3) : EncodeLength.Statement (.clr1Hl b) := rfl
theorem EncodeLength.set1Cy : EncodeLength.Statement (.set1Cy) := rfl
theorem EncodeLength.clr1Cy : EncodeLength.Statement (.clr1Cy) := rfl
theorem EncodeLength.not1Cy : EncodeLength.Statement (.not1Cy) := rfl
theorem EncodeLength.callAddr16 (addr : Word) : EncodeLength.Statement (.callAddr16 addr) := rfl
theorem EncodeLength.callt (t : BitVec 5) : EncodeLength.Statement (.callt t) := rfl
theorem EncodeLength.ret : EncodeLength.Statement (.ret) := rfl
theorem EncodeLength.reti : EncodeLength.Statement (.reti) := rfl
theorem EncodeLength.pushPsw : EncodeLength.Statement (.pushPsw) := rfl
theorem EncodeLength.pushRp (rp : RegPair) : EncodeLength.Statement (.pushRp rp) := rfl
theorem EncodeLength.popPsw : EncodeLength.Statement (.popPsw) := rfl
theorem EncodeLength.popRp (rp : RegPair) : EncodeLength.Statement (.popRp rp) := rfl
theorem EncodeLength.movwSpAx : EncodeLength.Statement (.movwSpAx) := rfl
theorem EncodeLength.movwAxSp : EncodeLength.Statement (.movwAxSp) := rfl
theorem EncodeLength.brAddr16 (addr : Word) : EncodeLength.Statement (.brAddr16 addr) := rfl
theorem EncodeLength.brRel (jd : Byte) : EncodeLength.Statement (.brRel jd) := rfl
theorem EncodeLength.brAx : EncodeLength.Statement (.brAx) := rfl
theorem EncodeLength.bc (jd : Byte) : EncodeLength.Statement (.bc jd) := rfl
theorem EncodeLength.bnc (jd : Byte) : EncodeLength.Statement (.bnc jd) := rfl
theorem EncodeLength.bz (jd : Byte) : EncodeLength.Statement (.bz jd) := rfl
theorem EncodeLength.bnz (jd : Byte) : EncodeLength.Statement (.bnz jd) := rfl
theorem EncodeLength.btSaddr (b : BitVec 3) (so : Byte) (jd : Byte) :
    EncodeLength.Statement (.btSaddr b so jd) := rfl
theorem EncodeLength.btSfr (b : BitVec 3) (fo : Byte) (jd : Byte) :
    EncodeLength.Statement (.btSfr b fo jd) := rfl
theorem EncodeLength.btA (b : BitVec 3) (jd : Byte) : EncodeLength.Statement (.btA b jd) := rfl
theorem EncodeLength.btPsw (b : BitVec 3) (jd : Byte) : EncodeLength.Statement (.btPsw b jd) := rfl
theorem EncodeLength.bfSaddr (b : BitVec 3) (so : Byte) (jd : Byte) :
    EncodeLength.Statement (.bfSaddr b so jd) := rfl
theorem EncodeLength.bfSfr (b : BitVec 3) (fo : Byte) (jd : Byte) :
    EncodeLength.Statement (.bfSfr b fo jd) := rfl
theorem EncodeLength.bfA (b : BitVec 3) (jd : Byte) : EncodeLength.Statement (.bfA b jd) := rfl
theorem EncodeLength.bfPsw (b : BitVec 3) (jd : Byte) : EncodeLength.Statement (.bfPsw b jd) := rfl
theorem EncodeLength.dbnzB (jd : Byte) : EncodeLength.Statement (.dbnzB jd) := rfl
theorem EncodeLength.dbnzC (jd : Byte) : EncodeLength.Statement (.dbnzC jd) := rfl
theorem EncodeLength.dbnzSaddr (so : Byte) (jd : Byte) :
    EncodeLength.Statement (.dbnzSaddr so jd) := rfl
theorem EncodeLength.nop : EncodeLength.Statement (.nop) := rfl
theorem EncodeLength.ei : EncodeLength.Statement (.ei) := rfl
theorem EncodeLength.di : EncodeLength.Statement (.di) := rfl
theorem EncodeLength.halt : EncodeLength.Statement (.halt) := rfl
theorem EncodeLength.stop : EncodeLength.Statement (.stop) := rfl

end Sys2Proof.Laws
end

