-- ==== Sys2Proof/Tests/Slice0.lean ====
section
/-! SUPPORT. The model's own tests: the operand checks refuse ill-formed terms; every constructor's
decoding, on words written from the `encoding` column of spec/opcode_table.json and the maps of
30_encoding.md R115, R116; steps with the values of 95_test_vectors.md (the docstring names the
vector); and, for each obligation with hypotheses, states and operands that meet them. -/

namespace Sys2Proof.Tests

open Sys2Proof.Machine Sys2Proof.Claims

/-! ### The operand checks: one ill-formed term for each -/

/-- R125: offsets 1CH, 1DH, 1EH name no memory. -/
theorem test_wf_saddr : (Instr.movASaddr 0x1C).wf = false ∧ (Instr.incSaddr 0x1D).wf = false ∧
    (Instr.set1Saddr 0 0x1E).wf = false := by
  decide

/-- R82: an odd offset of a 16-bit operand; R125: 1CH and 1EH. -/
theorem test_wf_saddrp : (Instr.movwAxSaddrp 0x41).wf = false ∧
    (Instr.movwSaddrpAx 0x1C).wf = false ∧ (Instr.movwSaddrpAx 0x1E).wf = false := by
  decide

/-- R73: D0H to DFH; R125: 1CH to 1EH. -/
theorem test_wf_sfr : (Instr.movASfr 0xD0).wf = false ∧ (Instr.movSfrA 0xDF).wf = false ∧
    (Instr.xchASfr 0x1E).wf = false := by
  decide

/-- R121: the excluded register and pair codes. -/
theorem test_wf_registers : (Instr.movAR .a).wf = false ∧ (Instr.movRA .a).wf = false ∧
    (Instr.xchAR .a).wf = false ∧ (Instr.xchAR .x).wf = false ∧ (Instr.movwAxRp .ax).wf = false ∧
    (Instr.movwRpAx .ax).wf = false ∧ (Instr.xchwAxRp .ax).wf = false := by
  decide

/-- R125: `SET1 PSW.7` and `CLR1 PSW.7` are `EI` and `DI`. -/
theorem test_wf_psw_bit : (Instr.set1Psw 7).wf = false ∧ (Instr.clr1Psw 7).wf = false := by
  decide

/-! ### Decoding: r = B, rp = DE, bit 5, CALLT index 15H, byte 5AH, Saddr-offset 40H, Sfr-offset
20H, word and address 1234H, jdisp FEH -/

theorem test_decode_mov :
    decode [0x0A, 0xF7, 0x5A] = .ok (.movRByte .b 0x5A, []) ∧
    decode [0xF5, 0x40, 0x5A] = .ok (.movSaddrByte 0x40 0x5A, []) ∧
    decode [0xF7, 0x20, 0x5A] = .ok (.movSfrByte 0x20 0x5A, []) ∧
    decode [0x0A, 0x27] = .ok (.movAR .b, []) ∧
    decode [0x0A, 0xE7] = .ok (.movRA .b, []) ∧
    decode [0x25, 0x40] = .ok (.movASaddr 0x40, []) ∧
    decode [0xE5, 0x40] = .ok (.movSaddrA 0x40, []) ∧
    decode [0x27, 0x20] = .ok (.movASfr 0x20, []) ∧
    decode [0xE7, 0x20] = .ok (.movSfrA 0x20, []) ∧
    decode [0x29, 0x34, 0x12] = .ok (.movAAddr16 0x1234, []) ∧
    decode [0xE9, 0x34, 0x12] = .ok (.movAddr16A 0x1234, []) ∧
    decode [0xF5, 0x1E, 0x5A] = .ok (.movPswByte 0x5A, []) ∧
    decode [0x25, 0x1E] = .ok (.movAPsw, []) ∧
    decode [0xE5, 0x1E] = .ok (.movPswA, []) ∧
    decode [0x2B] = .ok (.movADe, []) ∧
    decode [0xEB] = .ok (.movDeA, []) ∧
    decode [0x2F] = .ok (.movAHl, []) ∧
    decode [0xEF] = .ok (.movHlA, []) ∧
    decode [0x2D, 0x5A] = .ok (.movAHlb 0x5A, []) ∧
    decode [0xED, 0x5A] = .ok (.movHlbA 0x5A, []) := by
  refine ⟨?_, ?_, ?_, ?_, ?_, ?_, ?_, ?_, ?_, ?_, ?_, ?_, ?_, ?_, ?_, ?_, ?_, ?_, ?_, ?_⟩ <;> rfl

theorem test_decode_xch :
    decode [0xC0] = .ok (.xchAX, []) ∧
    decode [0x0A, 0x07] = .ok (.xchAR .b, []) ∧
    decode [0x05, 0x40] = .ok (.xchASaddr 0x40, []) ∧
    decode [0x07, 0x20] = .ok (.xchASfr 0x20, []) ∧
    decode [0x0B] = .ok (.xchADe, []) ∧
    decode [0x0F] = .ok (.xchAHl, []) ∧
    decode [0x0D, 0x5A] = .ok (.xchAHlb 0x5A, []) := by
  refine ⟨?_, ?_, ?_, ?_, ?_, ?_, ?_⟩ <;> rfl

theorem test_decode_movw :
    decode [0xF8, 0x34, 0x12] = .ok (.movwRpWord .de 0x1234, []) ∧
    decode [0xD6, 0x40] = .ok (.movwAxSaddrp 0x40, []) ∧
    decode [0xE6, 0x40] = .ok (.movwSaddrpAx 0x40, []) ∧
    decode [0xD8] = .ok (.movwAxRp .de, []) ∧
    decode [0xE8] = .ok (.movwRpAx .de, []) ∧
    decode [0xE6, 0x1C] = .ok (.movwSpAx, []) ∧
    decode [0xD6, 0x1C] = .ok (.movwAxSp, []) := by
  refine ⟨?_, ?_, ?_, ?_, ?_, ?_, ?_⟩ <;> rfl

theorem test_decode_xchw : decode [0xC8] = .ok (.xchwAxRp .de, []) := rfl

theorem test_decode_add :
    decode [0x83, 0x5A] = .ok (.addAByte 0x5A, []) ∧
    decode [0x81, 0x40, 0x5A] = .ok (.addSaddrByte 0x40 0x5A, []) ∧
    decode [0x0A, 0x87] = .ok (.addAR .b, []) ∧
    decode [0x85, 0x40] = .ok (.addASaddr 0x40, []) ∧
    decode [0x89, 0x34, 0x12] = .ok (.addAAddr16 0x1234, []) ∧
    decode [0x8F] = .ok (.addAHl, []) ∧
    decode [0x8D, 0x5A] = .ok (.addAHlb 0x5A, []) := by
  refine ⟨?_, ?_, ?_, ?_, ?_, ?_, ?_⟩ <;> rfl

theorem test_decode_addc :
    decode [0xA3, 0x5A] = .ok (.addcAByte 0x5A, []) ∧
    decode [0xA1, 0x40, 0x5A] = .ok (.addcSaddrByte 0x40 0x5A, []) ∧
    decode [0x0A, 0xA7] = .ok (.addcAR .b, []) ∧
    decode [0xA5, 0x40] = .ok (.addcASaddr 0x40, []) ∧
    decode [0xA9, 0x34, 0x12] = .ok (.addcAAddr16 0x1234, []) ∧
    decode [0xAF] = .ok (.addcAHl, []) ∧
    decode [0xAD, 0x5A] = .ok (.addcAHlb 0x5A, []) := by
  refine ⟨?_, ?_, ?_, ?_, ?_, ?_, ?_⟩ <;> rfl

theorem test_decode_sub :
    decode [0x93, 0x5A] = .ok (.subAByte 0x5A, []) ∧
    decode [0x91, 0x40, 0x5A] = .ok (.subSaddrByte 0x40 0x5A, []) ∧
    decode [0x0A, 0x97] = .ok (.subAR .b, []) ∧
    decode [0x95, 0x40] = .ok (.subASaddr 0x40, []) ∧
    decode [0x99, 0x34, 0x12] = .ok (.subAAddr16 0x1234, []) ∧
    decode [0x9F] = .ok (.subAHl, []) ∧
    decode [0x9D, 0x5A] = .ok (.subAHlb 0x5A, []) := by
  refine ⟨?_, ?_, ?_, ?_, ?_, ?_, ?_⟩ <;> rfl

theorem test_decode_subc :
    decode [0xB3, 0x5A] = .ok (.subcAByte 0x5A, []) ∧
    decode [0xB1, 0x40, 0x5A] = .ok (.subcSaddrByte 0x40 0x5A, []) ∧
    decode [0x0A, 0xB7] = .ok (.subcAR .b, []) ∧
    decode [0xB5, 0x40] = .ok (.subcASaddr 0x40, []) ∧
    decode [0xB9, 0x34, 0x12] = .ok (.subcAAddr16 0x1234, []) ∧
    decode [0xBF] = .ok (.subcAHl, []) ∧
    decode [0xBD, 0x5A] = .ok (.subcAHlb 0x5A, []) := by
  refine ⟨?_, ?_, ?_, ?_, ?_, ?_, ?_⟩ <;> rfl

theorem test_decode_and :
    decode [0x63, 0x5A] = .ok (.andAByte 0x5A, []) ∧
    decode [0x61, 0x40, 0x5A] = .ok (.andSaddrByte 0x40 0x5A, []) ∧
    decode [0x0A, 0x67] = .ok (.andAR .b, []) ∧
    decode [0x65, 0x40] = .ok (.andASaddr 0x40, []) ∧
    decode [0x69, 0x34, 0x12] = .ok (.andAAddr16 0x1234, []) ∧
    decode [0x6F] = .ok (.andAHl, []) ∧
    decode [0x6D, 0x5A] = .ok (.andAHlb 0x5A, []) := by
  refine ⟨?_, ?_, ?_, ?_, ?_, ?_, ?_⟩ <;> rfl

theorem test_decode_or :
    decode [0x73, 0x5A] = .ok (.orAByte 0x5A, []) ∧
    decode [0x71, 0x40, 0x5A] = .ok (.orSaddrByte 0x40 0x5A, []) ∧
    decode [0x0A, 0x77] = .ok (.orAR .b, []) ∧
    decode [0x75, 0x40] = .ok (.orASaddr 0x40, []) ∧
    decode [0x79, 0x34, 0x12] = .ok (.orAAddr16 0x1234, []) ∧
    decode [0x7F] = .ok (.orAHl, []) ∧
    decode [0x7D, 0x5A] = .ok (.orAHlb 0x5A, []) := by
  refine ⟨?_, ?_, ?_, ?_, ?_, ?_, ?_⟩ <;> rfl

theorem test_decode_xor :
    decode [0x43, 0x5A] = .ok (.xorAByte 0x5A, []) ∧
    decode [0x41, 0x40, 0x5A] = .ok (.xorSaddrByte 0x40 0x5A, []) ∧
    decode [0x0A, 0x47] = .ok (.xorAR .b, []) ∧
    decode [0x45, 0x40] = .ok (.xorASaddr 0x40, []) ∧
    decode [0x49, 0x34, 0x12] = .ok (.xorAAddr16 0x1234, []) ∧
    decode [0x4F] = .ok (.xorAHl, []) ∧
    decode [0x4D, 0x5A] = .ok (.xorAHlb 0x5A, []) := by
  refine ⟨?_, ?_, ?_, ?_, ?_, ?_, ?_⟩ <;> rfl

theorem test_decode_cmp :
    decode [0x13, 0x5A] = .ok (.cmpAByte 0x5A, []) ∧
    decode [0x11, 0x40, 0x5A] = .ok (.cmpSaddrByte 0x40 0x5A, []) ∧
    decode [0x0A, 0x17] = .ok (.cmpAR .b, []) ∧
    decode [0x15, 0x40] = .ok (.cmpASaddr 0x40, []) ∧
    decode [0x19, 0x34, 0x12] = .ok (.cmpAAddr16 0x1234, []) ∧
    decode [0x1F] = .ok (.cmpAHl, []) ∧
    decode [0x1D, 0x5A] = .ok (.cmpAHlb 0x5A, []) := by
  refine ⟨?_, ?_, ?_, ?_, ?_, ?_, ?_⟩ <;> rfl

theorem test_decode_addw : decode [0xD2, 0x34, 0x12] = .ok (.addwAxWord 0x1234, []) := rfl

theorem test_decode_subw : decode [0xC2, 0x34, 0x12] = .ok (.subwAxWord 0x1234, []) := rfl

theorem test_decode_cmpw : decode [0xE2, 0x34, 0x12] = .ok (.cmpwAxWord 0x1234, []) := rfl

theorem test_decode_inc :
    decode [0x0A, 0xC7] = .ok (.incR .b, []) ∧
    decode [0xC5, 0x40] = .ok (.incSaddr 0x40, []) := by
  refine ⟨?_, ?_⟩ <;> rfl

theorem test_decode_dec :
    decode [0x0A, 0xD7] = .ok (.decR .b, []) ∧
    decode [0xD5, 0x40] = .ok (.decSaddr 0x40, []) := by
  refine ⟨?_, ?_⟩ <;> rfl

theorem test_decode_incw : decode [0x88] = .ok (.incwRp .de, []) := rfl

theorem test_decode_decw : decode [0x98] = .ok (.decwRp .de, []) := rfl

theorem test_decode_ror : decode [0x00] = .ok (.ror, []) := rfl

theorem test_decode_rol : decode [0x10] = .ok (.rol, []) := rfl

theorem test_decode_rorc : decode [0x02] = .ok (.rorc, []) := rfl

theorem test_decode_rolc : decode [0x12] = .ok (.rolc, []) := rfl

theorem test_decode_set1 :
    decode [0x0A, 0x5A, 0x40] = .ok (.set1Saddr 5 0x40, []) ∧
    decode [0x0A, 0x56, 0x20] = .ok (.set1Sfr 5 0x20, []) ∧
    decode [0x0A, 0x52] = .ok (.set1A 5, []) ∧
    decode [0x0A, 0x5A, 0x1E] = .ok (.set1Psw 5, []) ∧
    decode [0x0A, 0x5E] = .ok (.set1Hl 5, []) ∧
    decode [0x14] = .ok (.set1Cy, []) := by
  refine ⟨?_, ?_, ?_, ?_, ?_, ?_⟩ <;> rfl

theorem test_decode_clr1 :
    decode [0x0A, 0xDA, 0x40] = .ok (.clr1Saddr 5 0x40, []) ∧
    decode [0x0A, 0xD6, 0x20] = .ok (.clr1Sfr 5 0x20, []) ∧
    decode [0x0A, 0xD2] = .ok (.clr1A 5, []) ∧
    decode [0x0A, 0xDA, 0x1E] = .ok (.clr1Psw 5, []) ∧
    decode [0x0A, 0xDE] = .ok (.clr1Hl 5, []) ∧
    decode [0x04] = .ok (.clr1Cy, []) := by
  refine ⟨?_, ?_, ?_, ?_, ?_, ?_⟩ <;> rfl

theorem test_decode_not1 : decode [0x06] = .ok (.not1Cy, []) := rfl

theorem test_decode_call : decode [0x22, 0x34, 0x12] = .ok (.callAddr16 0x1234, []) := rfl

theorem test_decode_callt : decode [0x6A] = .ok (.callt 0x15, []) := rfl

theorem test_decode_ret : decode [0x20] = .ok (.ret, []) := rfl

theorem test_decode_reti : decode [0x24] = .ok (.reti, []) := rfl

theorem test_decode_push :
    decode [0x2E] = .ok (.pushPsw, []) ∧
    decode [0xAA] = .ok (.pushRp .de, []) := by
  refine ⟨?_, ?_⟩ <;> rfl

theorem test_decode_pop :
    decode [0x2C] = .ok (.popPsw, []) ∧
    decode [0xA8] = .ok (.popRp .de, []) := by
  refine ⟨?_, ?_⟩ <;> rfl

theorem test_decode_br :
    decode [0xB2, 0x34, 0x12] = .ok (.brAddr16 0x1234, []) ∧
    decode [0x30, 0xFE] = .ok (.brRel 0xFE, []) ∧
    decode [0xB0] = .ok (.brAx, []) := by
  refine ⟨?_, ?_, ?_⟩ <;> rfl

theorem test_decode_bc : decode [0x38, 0xFE] = .ok (.bc 0xFE, []) := rfl

theorem test_decode_bnc : decode [0x3A, 0xFE] = .ok (.bnc 0xFE, []) := rfl

theorem test_decode_bz : decode [0x3C, 0xFE] = .ok (.bz 0xFE, []) := rfl

theorem test_decode_bnz : decode [0x3E, 0xFE] = .ok (.bnz 0xFE, []) := rfl

theorem test_decode_bt :
    decode [0x0A, 0xD8, 0x40, 0xFE] = .ok (.btSaddr 5 0x40 0xFE, []) ∧
    decode [0x0A, 0xD4, 0x20, 0xFE] = .ok (.btSfr 5 0x20 0xFE, []) ∧
    decode [0x0A, 0xD0, 0xFE] = .ok (.btA 5 0xFE, []) ∧
    decode [0x0A, 0xD8, 0x1E, 0xFE] = .ok (.btPsw 5 0xFE, []) := by
  refine ⟨?_, ?_, ?_, ?_⟩ <;> rfl

theorem test_decode_bf :
    decode [0x0A, 0x58, 0x40, 0xFE] = .ok (.bfSaddr 5 0x40 0xFE, []) ∧
    decode [0x0A, 0x54, 0x20, 0xFE] = .ok (.bfSfr 5 0x20 0xFE, []) ∧
    decode [0x0A, 0x50, 0xFE] = .ok (.bfA 5 0xFE, []) ∧
    decode [0x0A, 0x58, 0x1E, 0xFE] = .ok (.bfPsw 5 0xFE, []) := by
  refine ⟨?_, ?_, ?_, ?_⟩ <;> rfl

theorem test_decode_dbnz :
    decode [0x36, 0xFE] = .ok (.dbnzB 0xFE, []) ∧
    decode [0x34, 0xFE] = .ok (.dbnzC 0xFE, []) ∧
    decode [0x32, 0x40, 0xFE] = .ok (.dbnzSaddr 0x40 0xFE, []) := by
  refine ⟨?_, ?_, ?_⟩ <;> rfl

theorem test_decode_nop : decode [0x08] = .ok (.nop, []) := rfl

theorem test_decode_ei : decode [0x0A, 0x7A, 0x1E] = .ok (.ei, []) := rfl

theorem test_decode_di : decode [0x0A, 0xFA, 0x1E] = .ok (.di, []) := rfl

theorem test_decode_halt : decode [0x0C] = .ok (.halt, []) := rfl

theorem test_decode_stop : decode [0x0E] = .ok (.stop, []) := rfl

/-- R122 to R125, R73, R82: what the decoder refuses, by name. -/
theorem test_decode_refusals :
    decode [0x01] = .error (.unassignedFirst 0x01) ∧
    decode [0x0A, 0x31] = .error (.unassignedSecond 0x31) ∧
    decode [0x0A, 0x03] = .error (.unassignedSecond 0x03) ∧
    decode [0x85, 0x1E] = .error (.pswSpOffset 0x1E) ∧
    decode [0x27, 0xD0] = .error (.sfrOffset 0xD0) ∧
    decode [0xD6, 0x41] = .error (.oddSaddrp 0x41) ∧
    decode [0x22, 0x00] = .error .truncated := by
  refine ⟨?_, ?_, ?_, ?_, ?_, ?_, ?_⟩ <;> rfl

/-- R135: a word of the opcode table, B1 its most significant byte, and the step that runs it from
reset. -/
theorem test_table_word : decodeTableWord 24 0x0AF34D = some (.movRByte .a 0x4D) ∧
    decodeTableWord 8 0x12 = some .rolc ∧ decodeTableWord 32 0x0AB847FE = some (.btSaddr 3 0x47 0xFE)
    ∧ decodeTableWord 8 0x01 = none ∧
    step (State.reset.withFetchWord 24 0x0AF34D) =
      exec (.movRByte .a 0x4D) (State.reset.withFetchWord 24 0x0AF34D) :=
  ⟨by decide, by decide, by decide, by decide, rfl⟩

/-! ### Steps -/

/-- The test configuration (00_scope.md R14) with the PC at 0100H. -/
def start : State := { State.reset with pc := 0x0100 }

/-- One step on a state with this code at its PC. -/
def run (code : List Byte) (s : State) : Out State :=
  step { s with mem := placeBytes code s.pc s.mem }

/-- Whether that step answers a next state with this property. -/
def ran (code : List Byte) (s : State) (p : State → Bool) : Bool :=
  match run code s with
  | .next t => p t
  | .fault _ | .refused _ => false

/-- V1.1, R149: `MOV A, !0FE00H`. -/
theorem test_mov_a_addr16 :
    ran [0x29, 0x00, 0xFE]
      { start with mem := [(0xFE00, 0x5A)] }
      (fun t => t.regs.a = 0x5A && t.psw = 0x02 && t.pc = 0x0103) := by
  decide

/-- V1.2, R141: `MOV 0FE30H, #50H`. -/
theorem test_mov_saddr_byte :
    ran [0xF5, 0x30, 0x50]
      start
      (fun t => memGet t.mem 0xFE30 = some 0x50 && t.psw = 0x02 && t.pc = 0x0103) := by
  decide

/-- V1.3, R148: `MOV PM0, A (PM0 := FF00H)`. -/
theorem test_mov_sfr_a :
    ran [0xE7, 0x00]
      { start with regs := { Regs.atReset with a := 0xF0 } }
      (fun t => memGet t.mem 0xFF00 = some 0xF0 && t.psw = 0x02 && t.pc = 0x0102) := by
  decide

/-- V2a.29, R158: `MOV A, [HL+20H]`. -/
theorem test_mov_a_hlb_wraps :
    ran [0x2D, 0x20]
      { start with regs := { Regs.atReset with l := 0xF0, h := 0xFF }, mem := [(0x0010, 0x24)] }
      (fun t => t.regs.a = 0x24 && t.psw = 0x02 && t.pc = 0x0102) := by
  decide

/-- V1.10, R162: `XCH A, 0FEBCH`. -/
theorem test_xch_a_saddr :
    ran [0x05, 0xBC]
      { start with regs := { Regs.atReset with a := 0x11 }, mem := [(0xFEBC, 0x22)] }
      (fun t => t.regs.a = 0x22 && memGet t.mem 0xFEBC = some 0x11 && t.psw = 0x02 &&
        t.pc = 0x0102) := by
  decide

/-- V2a.32, R161: `XCH A, B`. -/
theorem test_xch_a_r :
    ran [0x0A, 0x07]
      { start with regs := { Regs.atReset with a := 0x12, b := 0x56 } }
      (fun t => t.regs.a = 0x56 && t.regs.b = 0x12 && t.psw = 0x02 && t.pc = 0x0102) := by
  decide

/-- V2a.36, R164: `XCH A, [DE]`. -/
theorem test_xch_a_de_in_rom_refused :
    run [0x0B]
      { start with
        regs := { Regs.atReset with a := 0x01, e := 0x00, d := 0x02 }
        mem := [(0x0200, 0x02)] } =
      .refused (.romWrite 0x0200) := rfl

/-- V2a.37, R165: `XCH A, [HL]`. -/
theorem test_xch_a_hl :
    ran [0x0F]
      { start with
        regs := { Regs.atReset with a := 0x01, l := 0x10, h := 0xFE }
        mem := [(0xFE10, 0x02)] }
      (fun t => t.regs.a = 0x02 && memGet t.mem 0xFE10 = some 0x01 && t.psw = 0x02 &&
        t.pc = 0x0101) := by
  decide

/-- V2b.3, R171: `MOVW AX, 0FE40H`. -/
theorem test_movw_ax_saddrp_little_endian :
    ran [0xD6, 0x40]
      { start with mem := [(0xFE40, 0xCD), (0xFE41, 0xAB)] }
      (fun t => t.regs.x = 0xCD && t.regs.a = 0xAB && t.psw = 0x02 && t.pc = 0x0102) := by
  decide

/-- V2b.4, R171: `MOVW AX, 0FE41H`. -/
theorem test_movw_ax_odd_saddrp_refused :
    run [0xD6, 0x41]
      { start with mem := [(0xFE41, 0x00), (0xFE42, 0x00)] } =
      .refused (.oddSaddrp 0x41) := rfl

/-- V2b.6, R172: `MOVW 0FE20H, AX`. -/
theorem test_movw_saddrp_ax :
    ran [0xE6, 0x20]
      { start with regs := { Regs.atReset with x := 0xEF, a := 0xBE } }
      (fun t => memGet t.mem 0xFE20 = some 0xEF && memGet t.mem 0xFE21 = some 0xBE &&
        t.psw = 0x02 && t.pc = 0x0102) := by
  decide

/-- V2b.9, R174: `MOVW DE, AX`. -/
theorem test_movw_rp_ax :
    ran [0xE8]
      { start with regs := { Regs.atReset with x := 0x30, a := 0xFE } }
      (fun t => t.regs.e = 0x30 && t.regs.d = 0xFE && t.psw = 0x02 && t.pc = 0x0101) := by
  decide

/-- V2b.11, R175: `XCHW AX, HL`. -/
theorem test_xchw_ax_rp :
    ran [0xCC]
      { start with regs := { Regs.atReset with x := 0x22, a := 0x11, l := 0x44, h := 0x33 } }
      (fun t => t.regs.x = 0x44 && t.regs.a = 0x33 && t.regs.l = 0x22 && t.regs.h = 0x11 &&
        t.psw = 0x02 && t.pc = 0x0101) := by
  decide

/-- V1.13, R181: `ADD CR10, #56H (CR10 := FF00H)`. -/
theorem test_add_saddr_byte_in_sfr :
    ran [0x81, 0x00, 0x56]
      { start with mem := [(0xFF00, 0xAA)] }
      (fun t => memGet t.mem 0xFF00 = some 0x00 && t.psw = 0x53 && t.pc = 0x0103) := by
  decide

/-- V2c.4, R180: `ADD A, #01H`. -/
theorem test_add_a_byte_clears_stale_flags :
    ran [0x83, 0x01]
      { start with regs := { Regs.atReset with a := 0x7F }, psw := 0x43 }
      (fun t => t.regs.a = 0x80 && t.psw = 0x12 && t.pc = 0x0102) := by
  decide

/-- V2c.5, R182: `ADD A, A`. -/
theorem test_add_a_a :
    ran [0x0A, 0x83]
      { start with regs := { Regs.atReset with a := 0x88 } }
      (fun t => t.regs.a = 0x10 && t.psw = 0x13 && t.pc = 0x0102) := by
  decide

/-- V1.14, R192: `ADDC A, [HL]`. -/
theorem test_addc_a_hl :
    ran [0xAF]
      { start with
        regs := { Regs.atReset with a := 0x0F, l := 0x20, h := 0xFE }
        psw := 0x03
        mem := [(0xFE20, 0x00)] }
      (fun t => t.regs.a = 0x10 && t.psw = 0x12 && t.pc = 0x0101) := by
  decide

/-- V2c.12, R187: `ADDC A, #0FFH`. -/
theorem test_addc_a_byte_full_carry :
    ran [0xA3, 0xFF]
      { start with regs := { Regs.atReset with a := 0xFF }, psw := 0x03 }
      (fun t => t.psw = 0x13 && t.pc = 0x0102) := by
  decide

/-- V1.15, R196: `SUB A, D`. -/
theorem test_sub_a_r_half_borrow :
    ran [0x0A, 0x9B]
      { start with regs := { Regs.atReset with a := 0x10, d := 0x01 } }
      (fun t => t.regs.a = 0x0F && t.psw = 0x12 && t.pc = 0x0102) := by
  decide

/-- V2c.20, R194: `SUB A, #80H`. -/
theorem test_sub_a_byte_borrow :
    ran [0x93, 0x80]
      { start with regs := { Regs.atReset with a := 0x7F } }
      (fun t => t.regs.a = 0xFF && t.psw = 0x03 && t.pc = 0x0102) := by
  decide

/-- V1.16, R206: `SUBC A, [HL]`. -/
theorem test_subc_a_hl :
    ran [0xBF]
      { start with
        regs := { Regs.atReset with a := 0x00, l := 0x20, h := 0xFE }
        psw := 0x03
        mem := [(0xFE20, 0x00)] }
      (fun t => t.regs.a = 0xFF && t.psw = 0x13 && t.pc = 0x0101) := by
  decide

/-- V2c.23, R201: `SUBC A, #0FFH`. -/
theorem test_subc_a_byte_to_zero :
    ran [0xB3, 0xFF]
      { start with regs := { Regs.atReset with a := 0x00 }, psw := 0x03 }
      (fun t => t.psw = 0x53 && t.pc = 0x0102) := by
  decide

/-- V1.17, R209: `AND 0FEBAH, #11011100B`. -/
theorem test_and_saddr_byte :
    ran [0x61, 0xBA, 0xDC]
      { start with mem := [(0xFEBA, 0x3F)] }
      (fun t => memGet t.mem 0xFEBA = some 0x1C && t.psw = 0x02 && t.pc = 0x0103) := by
  decide

/-- V2c.26, R208: `AND A, #0FH`. -/
theorem test_and_keeps_ac_and_cy :
    ran [0x63, 0x0F]
      { start with regs := { Regs.atReset with a := 0xF0 }, psw := 0x13 }
      (fun t => t.regs.a = 0x00 && t.psw = 0x53 && t.pc = 0x0102) := by
  decide

/-- V1.18, R218: `OR A, 0FE98H`. -/
theorem test_or_a_saddr :
    ran [0x75, 0x98]
      { start with regs := { Regs.atReset with a := 0x0F }, mem := [(0xFE98, 0xF0)] }
      (fun t => t.regs.a = 0xFF && t.psw = 0x02 && t.pc = 0x0102) := by
  decide

/-- V2c.32, R224: `XOR A, A`. -/
theorem test_xor_a_a_keeps_cy :
    ran [0x0A, 0x43]
      { start with regs := { Regs.atReset with a := 0xC3 }, psw := 0x03 }
      (fun t => t.regs.a = 0x00 && t.psw = 0x43 && t.pc = 0x0102) := by
  decide

/-- V1.20, R230: `CMP 0FE38H, #38H`. -/
theorem test_cmp_saddr_byte :
    ran [0x11, 0x38, 0x38]
      { start with mem := [(0xFE38, 0x38)] }
      (fun t => t.psw = 0x42 && t.pc = 0x0103) := by
  decide

/-- V2c.37, R229: `CMP A, #54H`. -/
theorem test_cmp_a_byte_stores_nothing :
    ran [0x13, 0x54]
      { start with regs := { Regs.atReset with a := 0x55 }, psw := 0x53 }
      (fun t => t.psw = 0x02 && t.pc = 0x0102) := by
  decide

/-- V2e.1, R245: `INC A`. -/
theorem test_inc_r_keeps_cy :
    ran [0x0A, 0xC3]
      { start with regs := { Regs.atReset with a := 0xFF } }
      (fun t => t.regs.a = 0x00 && t.psw = 0x52 && t.pc = 0x0102) := by
  decide

/-- V1.25, R248: `DEC 0FE92H`. -/
theorem test_dec_saddr :
    ran [0xD5, 0x92]
      { start with mem := [(0xFE92, 0x10)] }
      (fun t => memGet t.mem 0xFE92 = some 0x0F && t.psw = 0x12 && t.pc = 0x0102) := by
  decide

/-- V1.26, R249: `INCW HL`. -/
theorem test_incw_wraps :
    ran [0x8C]
      { start with regs := { Regs.atReset with l := 0xFF, h := 0xFF } }
      (fun t => t.regs.l = 0x00 && t.regs.h = 0x00 && t.psw = 0x02 && t.pc = 0x0101) := by
  decide

/-- V2e.12, R250: `DECW HL`. -/
theorem test_decw_keeps_flags :
    ran [0x9C]
      { start with regs := { Regs.atReset with l := 0x00, h := 0x01 }, psw := 0x43 }
      (fun t => t.regs.l = 0xFF && t.regs.h = 0x00 && t.psw = 0x43 && t.pc = 0x0101) := by
  decide

/-- V2e.15, R251: `ROR A, 1`. -/
theorem test_ror_does_not_set_z :
    ran [0x00]
      { start with regs := { Regs.atReset with a := 0x00 } }
      (fun t => t.psw = 0x02 && t.pc = 0x0101) := by
  decide

/-- V2e.17, R252: `ROL A, 1`. -/
theorem test_rol :
    ran [0x10]
      { start with regs := { Regs.atReset with a := 0xA5 } }
      (fun t => t.regs.a = 0x4B && t.psw = 0x03 && t.pc = 0x0101) := by
  decide

/-- V2e.19, R253: `RORC A, 1`. -/
theorem test_rorc_takes_cy :
    ran [0x02]
      { start with regs := { Regs.atReset with a := 0x00 }, psw := 0x03 }
      (fun t => t.regs.a = 0x80 && t.psw = 0x02 && t.pc = 0x0101) := by
  decide

/-- V2e.21, R254: `ROLC A, 1`. -/
theorem test_rolc_takes_cy :
    ran [0x12]
      { start with regs := { Regs.atReset with a := 0x00 }, psw := 0x03 }
      (fun t => t.regs.a = 0x01 && t.psw = 0x02 && t.pc = 0x0101) := by
  decide

/-- V1.32, R260: `SET1 0FE55H.1`. -/
theorem test_set1_saddr :
    ran [0x0A, 0x1A, 0x55]
      { start with mem := [(0xFE55, 0x00)] }
      (fun t => memGet t.mem 0xFE55 = some 0x02 && t.psw = 0x02 && t.pc = 0x0103) := by
  decide

/-- V1.33, R266: `CLR1 P3.7 (P3 := FF00H)`. -/
theorem test_clr1_sfr :
    ran [0x0A, 0xF6, 0x00]
      { start with mem := [(0xFF00, 0xFF)] }
      (fun t => memGet t.mem 0xFF00 = some 0x7F && t.psw = 0x02 && t.pc = 0x0103) := by
  decide

/-- V2f.15, R267: `CLR1 A.0`. -/
theorem test_clr1_a_does_not_set_z :
    ran [0x0A, 0x82]
      { start with regs := { Regs.atReset with a := 0x01 } }
      (fun t => t.regs.a = 0x00 && t.psw = 0x02 && t.pc = 0x0102) := by
  decide

/-- V2f.6, R264: `SET1 [HL].2`. -/
theorem test_set1_hl :
    ran [0x0A, 0x2E]
      { start with regs := { Regs.atReset with l := 0x80, h := 0xFE }, mem := [(0xFE80, 0xF0)] }
      (fun t => memGet t.mem 0xFE80 = some 0xF4 && t.psw = 0x02 && t.pc = 0x0102) := by
  decide

/-- V2f.8, R263: `SET1 PSW.0`. -/
theorem test_set1_psw_cy :
    ran [0x0A, 0x0A, 0x1E]
      start
      (fun t => t.psw = 0x03 && t.pc = 0x0103) := by
  decide

/-- V2f.12, R263: `SET1 PSW.1`. -/
theorem test_set1_psw_non_flag_refused :
    run [0x0A, 0x1A, 0x1E]
      start =
      .refused (.nonFlagBit 1) := rfl

/-- V2f.17, R268: `CLR1 PSW.7`. -/
theorem test_clr1_psw_ie_sets_hold :
    ran [0x0A, 0xFA, 0x1E]
      { start with psw := 0x83 }
      (fun t => t.psw = 0x03 && t.pc = 0x0103 && t.hold = true) := by
  decide

/-- V2f.23, R272: `NOT1 CY`. -/
theorem test_not1_cy :
    ran [0x06]
      { start with psw := 0x43 }
      (fun t => t.psw = 0x42 && t.pc = 0x0101) := by
  decide

/-- V2g.2, R280: `CALL !0200H`. -/
theorem test_call_from_top_of_ram :
    ran [0x22, 0x00, 0x02]
      { start with sp := 0xFF00 }
      (fun t => memGet t.mem 0xFEFE = some 0x03 && memGet t.mem 0xFEFF = some 0x01 &&
        t.sp = 0xFEFE && t.psw = 0x02 && t.pc = 0x0200) := by
  decide

/-- V2g.3, R280: `CALL !0200H`. -/
theorem test_call_half_outside_ram_refused :
    run [0x22, 0x00, 0x02]
      { start with sp := 0xFE01 } =
      .refused (.stackOutsideRam 0xFDFF) := rfl

/-- V2g.6, R281: `CALLT [7EH]`. -/
theorem test_callt_last_entry :
    ran [0x7E]
      { start with sp := 0xFEE0, mem := [(0x007E, 0x34), (0x007F, 0x12)] }
      (fun t => memGet t.mem 0xFEDE = some 0x01 && memGet t.mem 0xFEDF = some 0x01 &&
        t.sp = 0xFEDE && t.psw = 0x02 && t.pc = 0x1234) := by
  decide

/-- V2g.9, R282: `RET`. -/
theorem test_ret :
    ran [0x20]
      { start with sp := 0xFEFE, mem := [(0xFEFE, 0xCD), (0xFEFF, 0xAB)] }
      (fun t => t.sp = 0xFF00 && t.psw = 0x02 && t.pc = 0xABCD) := by
  decide

/-- V2g.12, R283: `RETI`. -/
theorem test_reti_clears_nmis :
    ran [0x24]
      { start with
        sp := 0xFEDD
        nmis := true
        mem := [(0xFEDD, 0x23), (0xFEDE, 0x01), (0xFEDF, 0x02)] }
      (fun t => t.sp = 0xFEE0 && t.psw = 0x02 && t.pc = 0x0123 && t.hold = true &&
        t.nmis = false) := by
  decide

/-- V2g.13, R283: `RETI`. -/
theorem test_reti_hardwired_bits :
    ran [0x24]
      { start with sp := 0xFEDD, mem := [(0xFEDD, 0x00), (0xFEDE, 0x02), (0xFEDF, 0xFF)] }
      (fun t => t.sp = 0xFEE0 && t.psw = 0xD3 && t.pc = 0x0200 && t.hold = true) := by
  decide

/-- V2h.1, R290: `PUSH PSW`. -/
theorem test_push_psw :
    ran [0x2E]
      { start with sp := 0xFEE0, psw := 0xD3 }
      (fun t => memGet t.mem 0xFEDF = some 0xD3 && t.sp = 0xFEDF && t.psw = 0xD3 &&
        t.pc = 0x0101) := by
  decide

/-- V2h.3, R291: `PUSH HL`. -/
theorem test_push_rp_lowest_ram :
    ran [0xAE]
      { start with regs := { Regs.atReset with l := 0x5A, h := 0xA5 }, sp := 0xFE02 }
      (fun t => memGet t.mem 0xFE00 = some 0x5A && memGet t.mem 0xFE01 = some 0xA5 &&
        t.sp = 0xFE00 && t.psw = 0x02 && t.pc = 0x0101) := by
  decide

/-- V2h.5, R292: `POP PSW`. -/
theorem test_pop_psw_sets_hold :
    ran [0x2C]
      { start with sp := 0xFEDF, mem := [(0xFEDF, 0x81)] }
      (fun t => t.sp = 0xFEE0 && t.psw = 0x83 && t.pc = 0x0101 && t.hold = true) := by
  decide

/-- V2h.6, R293: `POP DE`. -/
theorem test_pop_rp :
    ran [0xA8]
      { start with sp := 0xFEDE, mem := [(0xFEDE, 0x34), (0xFEDF, 0x12)] }
      (fun t => t.regs.e = 0x34 && t.regs.d = 0x12 && t.sp = 0xFEE0 && t.psw = 0x02 &&
        t.pc = 0x0101) := by
  decide

/-- V2h.8, R294: `MOVW SP, AX`. -/
theorem test_movw_sp_ax :
    ran [0xE6, 0x1C]
      { start with regs := { Regs.atReset with x := 0x34, a := 0x12 } }
      (fun t => t.sp = 0x1234 && t.psw = 0x02 && t.pc = 0x0102) := by
  decide

/-- V2h.9, R295: `MOVW AX, SP`. -/
theorem test_movw_ax_sp :
    ran [0xD6, 0x1C]
      { start with sp := 0xFEDC }
      (fun t => t.regs.x = 0xDC && t.regs.a = 0xFE && t.psw = 0x02 && t.pc = 0x0102) := by
  decide

/-- V2i.1, R300: `BR !1FFFH`. -/
theorem test_br_addr16 :
    ran [0xB2, 0xFF, 0x1F]
      start
      (fun t => t.psw = 0x02 && t.pc = 0x1FFF) := by
  decide

/-- V2i.5, R301: `BR $0182H`. -/
theorem test_br_rel_backwards :
    ran [0x30, 0x80]
      { start with pc := 0x0200 }
      (fun t => t.psw = 0x02 && t.pc = 0x0182) := by
  decide

/-- V2i.7, R301: `BR $ at 0000H`. -/
theorem test_br_rel_wraps :
    ran [0x30, 0x80]
      { start with pc := 0x0000 }
      (fun t => t.psw = 0x02 && t.pc = 0xFF82) := by
  decide

/-- V2i.8, R302: `BR AX`. -/
theorem test_br_ax :
    ran [0xB0]
      { start with regs := { Regs.atReset with x := 0x00, a := 0x02 } }
      (fun t => t.psw = 0x02 && t.pc = 0x0200) := by
  decide

/-- V2i.10, R303: `BC $0110H`. -/
theorem test_bc_taken :
    ran [0x38, 0x0E]
      { start with psw := 0x03 }
      (fun t => t.psw = 0x03 && t.pc = 0x0110) := by
  decide

/-- V2i.11, R304: `BNC $00F0H`. -/
theorem test_bnc_taken_backwards :
    ran [0x3A, 0xEE]
      start
      (fun t => t.psw = 0x02 && t.pc = 0x00F0) := by
  decide

/-- V2i.14, R305: `BZ $0110H`. -/
theorem test_bz_ignores_ac_and_cy :
    ran [0x3C, 0x0E]
      { start with psw := 0x13 }
      (fun t => t.psw = 0x13 && t.pc = 0x0102) := by
  decide

/-- V2i.16, R306: `BNZ $0110H`. -/
theorem test_bnz_not_taken :
    ran [0x3E, 0x0E]
      { start with psw := 0x42 }
      (fun t => t.psw = 0x42 && t.pc = 0x0102) := by
  decide

/-- V2i.19, R308: `BT sfr(FF00H).7, $0110H`. -/
theorem test_bt_sfr_taken :
    ran [0x0A, 0xF4, 0x00, 0x0C]
      { start with mem := [(0xFF00, 0x80)] }
      (fun t => t.psw = 0x02 && t.pc = 0x0110) := by
  decide

/-- V2i.18, R307: `BT 0FE40H.0, $0110H`. -/
theorem test_bt_saddr_not_taken :
    ran [0x0A, 0x88, 0x40, 0x0C]
      { start with mem := [(0xFE40, 0xFE)] }
      (fun t => t.psw = 0x02 && t.pc = 0x0104) := by
  decide

/-- V2i.21, R309: `BT A.7, $0110H`. -/
theorem test_bt_a_not_taken :
    ran [0x0A, 0xF0, 0x0D]
      { start with regs := { Regs.atReset with a := 0x7F } }
      (fun t => t.psw = 0x02 && t.pc = 0x0103) := by
  decide

/-- V2i.23, R310: `BT PSW.7, $0110H`. -/
theorem test_bt_psw_ie :
    ran [0x0A, 0xF8, 0x1E, 0x0C]
      { start with psw := 0x82 }
      (fun t => t.psw = 0x82 && t.pc = 0x0110) := by
  decide

/-- V2i.26, R312: `BF sfr(FF00H).2, $0110H`. -/
theorem test_bf_sfr_not_taken :
    ran [0x0A, 0x24, 0x00, 0x0C]
      { start with mem := [(0xFF00, 0x04)] }
      (fun t => t.psw = 0x02 && t.pc = 0x0104) := by
  decide

/-- V2i.25, R311: `BF 0FE40H.3, $0110H`. -/
theorem test_bf_saddr_taken :
    ran [0x0A, 0x38, 0x40, 0x0C]
      { start with mem := [(0xFE40, 0xF7)] }
      (fun t => t.psw = 0x02 && t.pc = 0x0110) := by
  decide

/-- V2i.29, R314: `BF PSW.4, $0110H`. -/
theorem test_bf_psw_ac_not_taken :
    ran [0x0A, 0x48, 0x1E, 0x0C]
      { start with psw := 0x12 }
      (fun t => t.psw = 0x12 && t.pc = 0x0104) := by
  decide

/-- V2i.32, R315: `DBNZ B, $ (self)`. -/
theorem test_dbnz_b_from_zero :
    ran [0x36, 0xFE]
      { start with regs := { Regs.atReset with b := 0x00 } }
      (fun t => t.regs.b = 0xFF && t.psw = 0x02 && t.pc = 0x0100) := by
  decide

/-- V2i.34, R317: `DBNZ 0FE40H, $0110H`. -/
theorem test_dbnz_saddr_to_zero :
    ran [0x32, 0x40, 0x0D]
      { start with mem := [(0xFE40, 0x01)] }
      (fun t => memGet t.mem 0xFE40 = some 0x00 && t.psw = 0x02 && t.pc = 0x0103) := by
  decide

/-- V2j.2, R325: `NOP`. -/
theorem test_nop_clears_hold :
    ran [0x08]
      { start with hold := true }
      (fun t => t.psw = 0x02 && t.pc = 0x0101 && t.hold = false) := by
  decide

/-- V2j.3, R326: `EI`. -/
theorem test_ei_does_not_set_hold :
    ran [0x0A, 0x7A, 0x1E]
      start
      (fun t => t.psw = 0x82 && t.pc = 0x0103) := by
  decide

/-- V2j.5, R327: `DI`. -/
theorem test_di_sets_hold :
    ran [0x0A, 0xFA, 0x1E]
      { start with psw := 0x82 }
      (fun t => t.psw = 0x02 && t.pc = 0x0103 && t.hold = true) := by
  decide

/-- V2j.7, R328: `HALT`. -/
theorem test_halt :
    ran [0x0C]
      { start with psw := 0x82 }
      (fun t => t.psw = 0x82 && t.pc = 0x0101 && t.mode = .halt) := by
  decide

/-- V2j.8, R329: `STOP`. -/
theorem test_stop :
    ran [0x0E]
      { start with psw := 0x82 }
      (fun t => t.psw = 0x82 && t.pc = 0x0101 && t.mode = .stop) := by
  decide

/-- V3a.5, 30_encoding.md rule R126: `(prefix 0AH at the last ROM byte)`. -/
theorem test_decode_needs_second_byte_in_rom :
    run [0x0A]
      { start with pc := 0x1FFF } =
      .refused (.fetchRight 0x2000) := rfl

/-- V3a.9, R325: `NOP at 1FFFH`. -/
theorem test_nop_at_last_rom_byte :
    ran [0x08]
      { start with pc := 0x1FFF }
      (fun t => t.psw = 0x02 && t.pc = 0x2000) := by
  decide

/-- V2d.1, R240 (AC is a free value and is not tested): `ADDW AX, #0001H`. -/
theorem test_addw_wraps :
    ran [0xD2, 0x01, 0x00] { start with regs := { Regs.atReset with x := 0xFF, a := 0xFF } }
      (fun t => t.regs.x = 0x00 && t.regs.a = 0x00 && t.pc = 0x0103) := by
  decide

/-- V2d.4, R241: `SUBW AX, #0001H`. -/
theorem test_subw_borrows :
    ran [0xC2, 0x01, 0x00] start
      (fun t => t.regs.x = 0xFF && t.regs.a = 0xFF && t.pc = 0x0103) := by
  decide

/-- V2d.6, R242: `CMPW AX, #1235H` changes no register. -/
theorem test_cmpw_keeps_ax :
    ran [0xE2, 0x35, 0x12] { start with regs := { Regs.atReset with x := 0x34, a := 0x12 } }
      (fun t => t.regs.x = 0x34 && t.regs.a = 0x12 && t.pc = 0x0103) := by
  decide

/-- The state of 95_test_vectors.md section 3.2, the INTWDT and INTP0 requests both pending. -/
def boundary : State :=
  { start with
    pc := 0x0123, sp := 0xFEE0, psw := 0xC3
    mem := [(0x0004, 0x00), (0x0005, 0x03), (0x0006, 0x00), (0x0007, 0x02), (0x0123, 0x08)]
    intc := [⟨0x0004, true, false, true⟩, ⟨0x0006, true, false, false⟩] }

/-- One step with the platform offering this request. -/
def offer (v : Word) (release : Bool) (s : State) (p : State → Bool) : Bool :=
  match step { s with inputs :=
      [{ PlatformInput.quiet with offer := .chosen v, release := release }] } with
  | .next t => p t
  | .fault _ | .refused _ => false

/-- V3b.1, R350, R352: a maskable request with IE = 1. -/
theorem test_acknowledge_maskable :
    offer 0x0006 false boundary (fun t => memGet t.mem 0xFEDD = some 0x23 &&
      memGet t.mem 0xFEDE = some 0x01 && memGet t.mem 0xFEDF = some 0xC3 && t.pc = 0x0200 &&
      t.sp = 0xFEDD && t.psw = 0x43 && t.nmis = false && t.hold = false) := by
  decide

/-- V3b.2, R347: IE = 0 keeps a maskable request waiting; the `NOP` at the PC runs. -/
theorem test_not_acknowledged_with_ie_clear :
    offer 0x0006 false { boundary with psw := 0x43 } (fun t => t.pc = 0x0124 && t.sp = 0xFEE0) := by
  decide

/-- V3b.3, R347: `hold` keeps it waiting. -/
theorem test_not_acknowledged_in_hold_window :
    offer 0x0006 false { boundary with psw := 0x82, hold := true }
      (fun t => t.pc = 0x0124 && t.sp = 0xFEE0 && t.hold = false) := by
  decide

/-- V3b.5, R350: a non-maskable request sets NMIS and clears IE. -/
theorem test_acknowledge_non_maskable :
    offer 0x0004 false { boundary with psw := 0x93 } (fun t => memGet t.mem 0xFEDF = some 0x93 &&
      t.pc = 0x0300 && t.psw = 0x13 && t.nmis = true) := by
  decide

/-- V3b.6, R347: NMIS blocks every request. -/
theorem test_not_acknowledged_in_nmi :
    offer 0x0004 false { boundary with psw := 0x02, nmis := true } (fun t => t.pc = 0x0124) := by
  decide

/-- V3b.9, R98: the third push outside RAM refuses the whole sequence. -/
theorem test_acknowledge_refused :
    step { boundary with
      sp := 0xFE02, psw := 0x82, inputs := [{ PlatformInput.quiet with offer := .chosen 0x0006 }] } =
      .refused (.stackOutsideRam 0xFDFF) := rfl

/-- V3b.10, R362: a request acknowledged out of HALT. -/
theorem test_acknowledge_out_of_halt :
    offer 0x0006 true { boundary with pc := 0x0124, psw := 0x82, mode := .halt }
      (fun t => memGet t.mem 0xFEDD = some 0x24 && t.pc = 0x0200 && t.psw = 0x02 &&
        t.mode = .run) := by
  decide

/-- V3c.1, V3c.4, R370, R371: RESET out of STOP, with NMIS set; RAM is unwritten again. -/
theorem test_reset_input :
    (match step { start with
        mode := .stop, nmis := true, psw := 0xD3
        mem := [(0x0000, 0x80), (0x0001, 0x00), (0xFE40, 0x11)]
        inputs := [{ PlatformInput.quiet with reset := true }] } with
      | .next t => t.pc = 0x0080 && t.psw = 0x02 && !t.nmis && t.mode = .run &&
          memGet t.mem 0xFE40 = none && memGet t.mem 0x0000 = some 0x80
      | .fault _ | .refused _ => false) = true := by
  decide

/-! ### Witnesses: for each obligation with hypotheses, states and operands that meet them -/

/-- A product with every region and, in the SFR area, a storage register in all units (FF00H,
FF01H), one that is read only (FF02H), one that is write only (FF03H), a device (FF04H). -/
def wideProd : Product :=
  { romTop := 0x1FFF, ramBase := 0xFE00, lcdRam := true, eeprom := .bytes256,
    vectors := Subseries.vectors .upd789104,
    sfrMap :=
      [⟨0xFF00, true, true, true, true, true, .storage⟩,
        ⟨0xFF01, true, true, true, true, true, .storage⟩,
        ⟨0xFF02, false, true, false, true, false, .storage⟩,
        ⟨0xFF03, false, true, false, false, true, .storage⟩,
        ⟨0xFF04, false, true, false, true, true, .device⟩],
    pswFixed := .open_, fetchFromRam := true }

/-- A state of that product: DE = FE50H, HL = FE60H, SP = FEE0H, a `NOP` at the PC. -/
def wide : State :=
  { start with
    regs := ⟨0x01, 0x02, 0x03, 0x04, 0x50, 0xFE, 0x60, 0xFE⟩
    sp := 0xFEE0
    mem :=
      [(0x0000, 0x80), (0x0001, 0x00), (0x0004, 0x00), (0x0005, 0x03), (0x0006, 0x00),
        (0x0007, 0x02), (0x0040, 0x00), (0x0041, 0x02), (0x007E, 0x34), (0x007F, 0x12),
        (0x0100, 0x08), (0x1FFF, 0x08), (0xF8FF, 0x11), (0xFA1B, 0x22), (0xFE00, 0x66),
        (0xFE40, 0x5A), (0xFE41, 0xA5), (0xFE50, 0x33), (0xFE60, 0x44), (0xFE70, 0x55),
        (0xFEE0, 0x34), (0xFEE1, 0x12), (0xFEE2, 0x83), (0xFEFF, 0x99), (0xFF00, 0x77),
        (0xFF01, 0x88)]
    prod := wideProd }

/-- The state of an outcome that has one. -/
def after (o : Out State) : State :=
  match o with
  | .next t => t
  | .fault _ | .refused _ => State.reset

/-- The platform offers this request in a step. -/
def offering (v : Word) (release : Bool) : PlatformInput :=
  { PlatformInput.quiet with offer := .chosen v, release := release }

/-- The platform asserts RESET in a step. -/
def resetting : PlatformInput := { PlatformInput.quiet with reset := true }

/-- `wide` with INTP0 (0006H) pending and enabled, and INTWDT (0004H) pending and non-maskable. -/
def requested : State :=
  { wide with
    psw := 0x82
    intc := [⟨0x0004, true, false, true⟩, ⟨0x0006, true, false, false⟩] }

/-- DecodeEncode: operands at the edges of their ranges. -/
theorem test_witness_wf : (Instr.movASaddr 0x1B).wf = true ∧ (Instr.movASaddr 0x1F).wf = true ∧
    (Instr.movwAxSaddrp 0x1A).wf = true ∧ (Instr.movwAxSaddrp 0xFE).wf = true ∧
    (Instr.movASfr 0xCF).wf = true ∧ (Instr.movASfr 0xE0).wf = true ∧
    (Instr.set1Psw 6).wf = true ∧ (Instr.xchAR .h).wf = true := by
  decide

/-- EncodeDecode: bytes that decode, with a byte after them. -/
theorem test_witness_decode : decode [0x0A, 0xFA, 0x1E, 0x99] = .ok (.di, [0x99]) := rfl

/-- UnassignedCodes: the edges of both lists, and a PC at such a code. -/
theorem test_witness_unassigned :
    (0x01#8).toNat ∈ unassignedFirstBytes ∧ (0xFF#8).toNat ∈ unassignedFirstBytes ∧
    (0x0C#8).toNat ∈ unassignedSecondBytes ∧ (0xE3#8).toNat ∈ unassignedSecondBytes ∧
    wide.mode = .run ∧ wide.inputs = [] ∧
    fetchByte 0x0100#16 { wide with mem := [(0x0100, 0x01)] } = .ok 0x01#8 ∧
    fetchByte 0x0100#16 { wide with mem := [(0x0100, 0x0A), (0x0101, 0x0C)] } = .ok 0x0A#8 ∧
    fetchByte 0x0101#16 { wide with mem := [(0x0100, 0x0A), (0x0101, 0x0C)] } = .ok 0x0C#8 :=
  ⟨by decide, by decide, by decide, by decide, rfl, rfl, rfl, rfl, rfl⟩

/-- UnassignedCodes, the last clause: codes whose offset is refused, at the edges (R125's own
examples among them), and the codes beside them that are PSW and SP forms. -/
theorem test_witness_refused_offsets :
    (memOperand (.xchASaddr 0x1E) = some (.saddr 0x1E, .byte, true) ∧
      (MemForm.saddr 0x1E).ea wide = .error (.refused (.pswSpOffset 0x1E)) ∧
      ¬PswSpCode (.xchASaddr 0x1E) ∧ encode (.xchASaddr 0x1E) = [0x05, 0x1E]) ∧
    ((MemForm.sfr 0xD0).ea wide = .error (.refused (.sfrOffset 0xD0)) ∧
      ¬PswSpCode (.movASfr 0xD0) ∧ encode (.movASfr 0xD0) = [0x27, 0xD0]) ∧
    ((MemForm.saddrp 0x1D).ea wide = .error (.refused (.oddSaddrp 0x1D)) ∧
      ¬PswSpCode (.movwAxSaddrp 0x1D) ∧ encode (.movwAxSaddrp 0x1D) = [0xD6, 0x1D]) ∧
    PswSpCode (.movASaddr 0x1E) ∧ PswSpCode (.movwAxSaddrp 0x1C) ∧
    fetchByte 0x0100#16 { wide with mem := [(0x0100, 0x05), (0x0101, 0x1E)] } = .ok 0x05#8 ∧
    fetchByte 0x0101#16 { wide with mem := [(0x0100, 0x05), (0x0101, 0x1E)] } = .ok 0x1E#8 := by
  refine ⟨⟨rfl, rfl, ?_, rfl⟩, ⟨rfl, ?_, rfl⟩, ⟨rfl, ?_, rfl⟩, ?_, ?_, rfl, rfl⟩ <;> simp [PswSpCode]

/-- OperandAddresses: the edges of each branch (20_memory.md R72, R73, R97). -/
theorem test_witness_operand_addresses :
    eaSaddr 0x20 = .ok 0xFE20#16 ∧ eaSaddr 0x1F = .ok 0xFF1F#16 ∧
    eaSaddr 0x1C = .error (.refused (.pswSpOffset 0x1C)) ∧
    eaSaddrp 0x1A = .ok 0xFF1A#16 ∧ eaSaddrp 0x1D = .error (.refused (.oddSaddrp 0x1D)) ∧
    eaSaddrp 0x1E = .error (.refused (.pswSpOffset 0x1E)) ∧
    eaSfr 0xCF = .ok 0xFFCF#16 ∧ eaSfr 0xD0 = .error (.refused (.sfrOffset 0xD0)) ∧
    eaSfr 0xDF = .error (.refused (.sfrOffset 0xDF)) ∧ eaSfr 0xE0 = .ok 0xFFE0#16 ∧
    eaSfr 0x1E = .error (.refused (.pswSpOffset 0x1E)) := by
  refine ⟨?_, ?_, ?_, ?_, ?_, ?_, ?_, ?_, ?_, ?_, ?_⟩ <;> rfl

/-- RegisterAddressing, PcAdvance, RegisterWriters, FlagWriters, HoldWindow, ControlStateWriters: an
instruction that answers a next state, with a register, a PSW bit and SP it does not write. -/
theorem test_witness_next :
    memOperand (.movAHlb 0x10) = some (.hlb 0x10, .byte, true) ∧
    exec (.movAHlb 0x10) wide = .next (after (exec (.movAHlb 0x10) wide)) ∧
    Reg.h ∉ regsWritten (.movAHlb 0x10) ∧ writesSp (.movAHlb 0x10) = false ∧
    transfersControl (.movAHlb 0x10) = false ∧
    pswBits (.movAHlb 0x10) = some [] ∧ 0 ∉ ([] : List Nat) :=
  ⟨rfl, rfl, by decide, rfl, rfl, rfl, by decide⟩

/-- DataReads: the product record keeps its regions apart, the bounds of the PSW and SP addresses, and
an EEPROM byte that no image lists, which is read all the same (R66). -/
theorem test_witness_regions : LaidOut wideProd ∧ Within 0xFF1C 0xFF1E 0xFF1C ∧
    ¬Within 0xFF1C 0xFF1E 0xFF1B ∧ Within 0xF800 0xF8FF 0xF800 ∧
    region wideProd 0xFF1E = .pswSp ∧ region wideProd 0xFF1B = .sfr ∧
    memGet wide.mem 0xF800 = none ∧
    memRead .byte 0xF800 wide = .ok (Config.eepromByte 0xF800, wide) := by
  refine ⟨?_, ?_, ?_, ?_, ?_, ?_, ?_, rfl⟩ <;> first | decide | simp [LaidOut, Within, wideProd]

/-- DataReads: a storage SFR that nothing has written since RESET (R370) is read all the same. -/
theorem test_witness_platform_sfr :
    (∃ e, sfrEntry? wideProd 0xFF02 = some e ∧ sfrAllows e .byte = true ∧ e.readable = true ∧
      e.kind = .storage) ∧ memGet wide.mem 0xFF02 = none ∧
    memRead .byte 0xFF02 wide = .ok (Config.sfrByte 0xFF02, wide) :=
  ⟨⟨_, rfl, rfl, rfl, rfl⟩, rfl, rfl⟩

/-- R66: `MOV A, !0F800H` of an EEPROM byte that no image lists completes. -/
theorem test_mov_a_unlisted_eeprom : ∃ t, run [0x29, 0x00, 0xF8] wide = .next t ∧ t.pc = 0x0103 :=
  ⟨_, rfl, rfl⟩

/-- DataReads: each region at its edges, each SFR case. -/
theorem test_witness_reads :
    region wideProd 0x1FFF = .rom ∧ region wideProd 0xF8FF = .eeprom ∧
    region wideProd 0xFA1B = .lcdRam ∧ region wideProd 0xFE00 = .ram ∧
    region wideProd 0xFEFF = .ram ∧ region wideProd 0x2000 = .unmapped ∧
    region wideProd 0xFDFF = .unmapped ∧ region wideProd 0xF900 = .unmapped ∧
    region wideProd 0xFA1C = .unmapped ∧ region wideProd 0xFF1F = .sfr ∧
    memGet wide.mem 0x1FFF = some 0x08 ∧ memGet wide.mem 0x1FFE = none ∧
    sfrEntry? wideProd 0xFF05 = none ∧
    (∃ e, sfrEntry? wideProd 0xFF02 = some e ∧ sfrAllows e .bit = false) ∧
    (∃ e, sfrEntry? wideProd 0xFF03 = some e ∧ sfrAllows e .byte = true ∧ e.readable = false) ∧
    (∃ e, sfrEntry? wideProd 0xFF00 = some e ∧ sfrAllows e .byte = true ∧ e.readable = true ∧
      e.kind = .storage) ∧
    memGet wide.mem 0xFF00 = some 0x77 ∧ memGet wide.mem 0xFF02 = none ∧
    ∃ e, sfrEntry? wideProd 0xFF04 = some e ∧ sfrAllows e .byte = true ∧ e.readable = true ∧
      e.kind = .device :=
  ⟨rfl, rfl, rfl, rfl, rfl, rfl, rfl, rfl, rfl, rfl, rfl, rfl, rfl, ⟨_, rfl, rfl⟩,
    ⟨_, rfl, rfl, rfl⟩, ⟨_, rfl, rfl, rfl, rfl⟩, rfl, rfl, _, rfl, rfl, rfl, rfl⟩

/-- DataWrites: each case (with the regions of `test_witness_reads`). -/
theorem test_witness_writes :
    Writable .byte wideProd 0xFE00 ∧ Writable .byte wideProd 0xFA00 ∧
    Writable .byte wideProd 0xFF04 ∧ isCell wideProd 0xFE00 ∧ isDevice wideProd 0xFF04 ∧
    ∃ e, sfrEntry? wideProd 0xFF02 = some e ∧ sfrAllows e .byte = true ∧ e.writable = false :=
  ⟨.inl rfl, .inr (.inl rfl), .inr (.inr ⟨rfl, _, rfl, rfl, rfl⟩),
    .inr (.inr (.inr (.inl rfl))), ⟨rfl, _, rfl, rfl⟩, _, rfl, rfl, rfl⟩

/-- WordAccesses: both clauses, the write at the last word of RAM. -/
theorem test_witness_words :
    memRead .word 0xFE40 wide = .ok (0x5A, wide) ∧ memRead .word 0xFE41 wide = .ok (0xA5, wide) ∧
    memWrite .word 0xFEFE 0x34 wide = .ok (wide.storeByte 0xFEFE 0x34) ∧
    memWrite .word 0xFEFF 0x12 (wide.storeByte 0xFEFE 0x34) =
      .ok ((wide.storeByte 0xFEFE 0x34).storeByte 0xFEFF 0x12) ∧
    region wideProd 0xFEFE = .ram ∧ region wideProd 0xFEFF = .ram :=
  ⟨rfl, rfl, rfl, rfl, rfl, rfl⟩

/-- StackAccesses: pushes to FE00H and to FDFFH, pops from FEFFH and from FF00H. -/
theorem test_witness_stack_bytes :
    (wideProd.ramBase ≤ 0xFE01#16 - 1#16 ∧ 0xFE01#16 - 1#16 ≤ 0xFEFF#16) ∧
    ¬(wideProd.ramBase ≤ 0xFE00#16 - 1#16 ∧ 0xFE00#16 - 1#16 ≤ 0xFEFF#16) ∧
    (wideProd.ramBase ≤ 0xFEFF#16 ∧ 0xFEFF#16 ≤ 0xFEFF#16) ∧
    memGet wide.mem 0xFEFF = some 0x99 ∧ memGet wide.mem 0xFEFE = none ∧
    ¬(wideProd.ramBase ≤ 0xFF00#16 ∧ 0xFF00#16 ≤ 0xFEFF#16) := by
  decide

/-- FetchRights: RAM with and without the right to fetch, and stored to. -/
theorem test_witness_fetch :
    region wideProd 0xFE00 = .ram ∧ wideProd.fetchFromRam = true ∧
    testProduct.fetchFromRam = false ∧ 0xFE00 ∉ wide.stored ∧
    0xFE00 ∈ (wide.storeByte 0xFE00 0x66).stored ∧ memGet wide.mem 0xFE00 = some 0x66 ∧
    memGet wide.mem 0xFE01 = none ∧ region wideProd 0xFF00 ≠ .rom ∧
    region wideProd 0xFF00 ≠ .ram := by
  decide

/-- PairViews, RegisterMoves, PairMoves, PswReadWrite: the side conditions. -/
theorem test_witness_registers :
    Reg.h.code / 2 ≠ RegPair.de.code ∧ Reg.h ≠ Reg.a ∧ Reg.h ≠ Reg.x ∧ RegPair.hl ≠ RegPair.ax ∧
    testProduct.pswFixed = .hardwired ∧ wideProd.pswFixed = .open_ := by
  decide

/-- LoadA: the six forms. -/
theorem test_witness_load :
    (loadInstr (.saddr 0x40) = some (.movASaddr 0x40, 2) ∧
      (MemForm.saddr 0x40).ea wide = .ok 0xFE40 ∧ memRead .byte 0xFE40 wide = .ok (0x5A, wide)) ∧
    (loadInstr (.sfr 0x00) = some (.movASfr 0x00, 2) ∧
      (MemForm.sfr 0x00).ea wide = .ok 0xFF00 ∧ memRead .byte 0xFF00 wide = .ok (0x77, wide)) ∧
    (loadInstr (.addr16 0x1FFF) = some (.movAAddr16 0x1FFF, 3) ∧
      (MemForm.addr16 0x1FFF).ea wide = .ok 0x1FFF ∧ memRead .byte 0x1FFF wide = .ok (0x08, wide)) ∧
    (loadInstr .de = some (.movADe, 1) ∧ MemForm.de.ea wide = .ok 0xFE50 ∧
      memRead .byte 0xFE50 wide = .ok (0x33, wide)) ∧
    (loadInstr .hl = some (.movAHl, 1) ∧ MemForm.hl.ea wide = .ok 0xFE60 ∧
      memRead .byte 0xFE60 wide = .ok (0x44, wide)) ∧
    loadInstr (.hlb 0x10) = some (.movAHlb 0x10, 2) ∧ (MemForm.hlb 0x10).ea wide = .ok 0xFE70 ∧
      memRead .byte 0xFE70 wide = .ok (0x55, wide) := by
  refine ⟨⟨?_, ?_, ?_⟩, ⟨?_, ?_, ?_⟩, ⟨?_, ?_, ?_⟩, ⟨?_, ?_, ?_⟩, ⟨?_, ?_, ?_⟩, ?_, ?_, ?_⟩ <;>
    rfl

/-- StoreByte, ExchangeMemory, AluMemorySource, AluSaddrByte, IncDecMemory, BitsOfMemory,
MemoryBitBranches, DecrementBranches: an instruction of each, its address readable and writable. -/
theorem test_witness_memory_forms :
    storeInstr (.hlb 0x10) = some (.movHlbA 0x10, 2) ∧
    storeByteInstr 0x12 (.saddr 0x40) = some (.movSaddrByte 0x40 0x12) ∧
    xchInstr (.saddr 0x40) = some (.xchASaddr 0x40, 2) ∧
    aluMemInstr .addc (.saddr 0x40) = some (.addcASaddr 0x40, 2) ∧
    memBitInstr true 7 (.saddr 0x40) = some (.set1Saddr 7 0x40, 3) ∧
    memBranchInstr false 7 0xFE (.saddr 0x40) = some (.bfSaddr 7 0x40 0xFE) ∧
    (MemForm.hlb 0x10).ea wide = .ok 0xFE70 ∧ Writable .byte wide.prod 0xFE70 ∧
    (MemForm.saddr 0x40).ea wide = .ok 0xFE40 ∧ eaSaddr 0x40 = .ok 0xFE40 ∧
    memRead .byte 0xFE40 wide = .ok (0x5A, wide) ∧ memRead .bit 0xFE40 wide = .ok (0x5A, wide) ∧
    Writable .byte wide.prod 0xFE40 ∧ Writable .bit wide.prod 0xFE40 ∧ isCell wide.prod 0xFE40 ∧
    AluOp.add ≠ AluOp.cmp :=
  ⟨rfl, rfl, rfl, rfl, rfl, rfl, rfl, .inl rfl, rfl, rfl, rfl, rfl, .inl rfl, .inl rfl,
    .inr (.inr (.inr (.inl rfl))), by decide⟩

/-- WordMoves: both clauses, in the SFR area. -/
theorem test_witness_word_moves :
    eaSaddrp 0x00 = .ok 0xFF00 ∧ memRead .word 0xFF00 wide = .ok (0x77, wide) ∧
    memRead .word (0xFF00 + 1#16) wide = .ok (0x88, wide) ∧ Writable .word wide.prod 0xFF00 ∧
    Writable .word wide.prod (0xFF00 + 1#16) ∧ isCell wide.prod 0xFF00 :=
  ⟨rfl, rfl, rfl, .inr (.inr ⟨rfl, _, rfl, rfl, rfl⟩), .inr (.inr ⟨rfl, _, rfl, rfl, rfl⟩),
    .inr (.inr (.inr (.inr ⟨rfl, _, rfl, rfl⟩)))⟩

/-- BitsOfPsw: a flag bit and a bit that names none, at the edges. -/
theorem test_witness_psw_bits : (7#3).toNat ∈ [7, 6, 4, 0] ∧ (0#3).toNat ∈ [7, 6, 4, 0] ∧
    (5#3).toNat ∉ [7, 6, 4, 0] ∧ (1#3).toNat ∉ [7, 6, 4, 0] := by
  decide

/-- Calls, PushPop: room for the frame, at the bottom of RAM; CALLT entries 0 and 31. -/
theorem test_witness_calls : PushRoom wide 2 ∧ PushRoom { wide with sp := 0xFE02 } 2 ∧
    PushRoom { wide with sp := 0xFF00 } 1 ∧
    memRead2 (BitVec.ofNat 16 (0x40 + 2 * (0#5).toNat)) wide = .ok (0x0200, wide) ∧
    memRead2 (BitVec.ofNat 16 (0x40 + 2 * (31#5).toNat)) wide = .ok (0x1234, wide) :=
  ⟨by unfold PushRoom; decide, by unfold PushRoom; decide, by unfold PushRoom; decide, rfl, rfl⟩

/-- Returns, PushPop: frames held on the stack. -/
theorem test_witness_returns : OnStack wide [0x34] ∧ OnStack wide [0x34, 0x12] ∧
    OnStack wide [0x34, 0x12, 0x83] :=
  ⟨by unfold OnStack; decide, by unfold OnStack; decide, by unfold OnStack; decide⟩

/-- StackRefusals: the first, second and third byte pushed and popped outside the range, and a byte
popped that nothing has written. -/
theorem test_witness_stack_refusals :
    (PushRoom { wide with sp := 0xFE00 } 0 ∧ inStackRam wideProd (0xFE00#16 - 1#16) = false) ∧
    (PushRoom { wide with sp := 0xFE01 } 1 ∧ inStackRam wideProd (0xFE01#16 - 2#16) = false) ∧
    (PushRoom { wide with sp := 0xFE02 } 2 ∧ inStackRam wideProd (0xFE02#16 - 3#16) = false) ∧
    memRead2 (BitVec.ofNat 16 (0x40 + 2 * (31#5).toNat)) { wide with sp := 0xFE01 } =
      .ok (0x1234, { wide with sp := 0xFE01 }) ∧
    (OnStack { wide with sp := 0xFF00 } [] ∧ inStackRam wideProd 0xFF00 = false) ∧
    OnStack { wide with sp := 0xFEFF } [0x99] ∧
    OnStack { wide with sp := 0xFEFE, mem := [(0xFEFE, 0x11), (0xFEFF, 0x99)] } [0x11, 0x99] ∧
    (OnStack wide [0x34, 0x12] ∧ inStackRam wideProd (0xFEE0#16 + 3#16) = true ∧
      memGet wide.mem 0xFEE3 = none) := by
  refine ⟨⟨?_, ?_⟩, ⟨?_, ?_⟩, ⟨?_, ?_⟩, rfl, ⟨?_, ?_⟩, ?_, ?_, ?_, ?_, ?_⟩ <;>
    (try unfold PushRoom) <;> (try unfold OnStack) <;> decide

/-- MemoryOperandStops: an address, a read and a write that stop. -/
theorem test_witness_memory_stops :
    (memOperand (.incSaddr 0x1C) = some (.saddr 0x1C, .byte, true) ∧
      (MemForm.saddr 0x1C).ea wide = .error (.refused (.pswSpOffset 0x1C))) ∧
    (memOperand (.movASaddr 0x42) = some (.saddr 0x42, .byte, true) ∧
      (MemForm.saddr 0x42).ea wide = .ok 0xFE42 ∧
      memRead .byte 0xFE42 wide = .error (.fault (.unwritten 0xFE42))) ∧
    memOperand (.movAddr16A 0x1FFF) = some (.addr16 0x1FFF, .byte, false) ∧
    (MemForm.addr16 0x1FFF).ea wide = .ok 0x1FFF ∧ region wideProd 0x1FFF = .rom :=
  ⟨⟨rfl, rfl⟩, ⟨rfl, rfl, rfl⟩, rfl, rfl, rfl⟩

/-- A ROM address and a device SFR without the 16-bit unit may not be written (MemoryOperandStops). -/
theorem test_witness_not_writable : ¬Writable .byte wideProd 0x1FFF ∧
    ¬Writable .word wideProd 0xFF02 := by
  refine ⟨?_, ?_⟩
  · rintro (h | h | ⟨h, -⟩) <;> exact absurd h (by decide)
  · rintro (h | h | ⟨-, e, h1, h2, -⟩)
    · exact absurd h (by decide)
    · exact absurd h (by decide)
    · cases h1; exact absurd h2 (by decide)

/-- `wide` with DE in ROM and a product whose FF01H is no register. -/
def narrow : State :=
  { wide with
    regs := { wide.regs with d := 0x1F, e := 0xFF }
    prod := { wideProd with sfrMap := [⟨0xFF00, true, true, true, true, true, .storage⟩] } }

/-- MemoryOperandStops: `XCH A, [DE]` whose read succeeds in ROM, and the second byte of `MOVW`. -/
theorem test_witness_second_access_stops :
    (writesBack .xchADe = true ∧ memOperand .xchADe = some (.de, .byte, true) ∧
      MemForm.de.ea narrow = .ok 0x1FFF ∧ memRead .byte 0x1FFF narrow = .ok (0x08, narrow) ∧
      exec .xchADe narrow = .refused (.romWrite 0x1FFF)) ∧
    eaSaddrp 0x00 = .ok 0xFF00 ∧ memRead .word 0xFF00 narrow = .ok (0x77, narrow) ∧
    memRead .word (0xFF00 + 1#16) narrow = .error (.refused (.noSfr 0xFF01)) ∧
    exec (.movwAxSaddrp 0x00) narrow = .refused (.noSfr 0xFF01) ∧
    memWrite .word 0xFF00 narrow.regs.x narrow = .ok (narrow.storeByte 0xFF00 narrow.regs.x) ∧
    exec (.movwSaddrpAx 0x00) narrow = .refused (.noSfr 0xFF01) :=
  ⟨⟨rfl, rfl, rfl, rfl, rfl⟩, rfl, rfl, rfl, rfl, rfl, rfl⟩

/-- MemoryOperandStops: there is no second byte to write at FF01H there. -/
theorem test_witness_second_byte_not_writable : ¬Writable .word narrow.prod (0xFF00 + 1#16) := by
  rintro (h | h | ⟨-, e, h1, -⟩)
  · exact absurd h (by decide)
  · exact absurd h (by decide)
  · cases (show (none : Option SfrEntry) = some e from h1)

/-- AcknowledgeCondition: a maskable request and a non-maskable one. -/
theorem test_witness_acknowledge_condition :
    canAcknowledge (offering 0x0006 false) requested = some (0x0006, false) ∧
    canAcknowledge (offering 0x0004 false) { requested with psw := 0x02 } =
      some (0x0004, true) := by
  decide

/-- AcknowledgeCondition, the converse: a source of each class that meets the hypotheses, and what
the default order answers (R348). -/
theorem test_witness_acknowledge_converse :
    (requested.hold = false ∧ requested.nmis = false ∧ requested.psw.getLsbD 7 = true) ∧
    (⟨0x0006, true, false, false⟩ ∈ requested.intc ∧ ⟨0x0004, true, false, true⟩ ∈ requested.intc) ∧
    (requested.prod.vectors.any fun row => row.addr == 0x0006) = true ∧
    (requested.prod.vectors.any fun row => row.addr == 0x0004) = true ∧
    (0x0006#16).toNat % 2 = 0 ∧ (offering 0x0006 false).offer = .chosen 0x0006 ∧
    canAcknowledge { PlatformInput.quiet with offer := .byDefault } requested =
      some (0x0004, true) := by
  decide

/-- AcknowledgeSequence, AcknowledgeThenReti: room for the frame, a vector held in ROM. -/
theorem test_witness_acknowledge : PushRoom requested 3 ∧
    region requested.prod 0x0006 = .rom ∧ region requested.prod (0x0006 + 1#16) = .rom ∧
    memGet requested.mem 0x0006 = some 0x00 ∧ memGet requested.mem 0x0007 = some 0x02 ∧
    acknowledge 0x0006 false false requested =
      .ok (after (toOutcome (acknowledge 0x0006 false false requested))) :=
  ⟨by unfold PushRoom; decide, rfl, rfl, rfl, rfl, rfl⟩

/-- PushThenPop, CallThenRet: the first instruction answers a next state. -/
theorem test_witness_push_call :
    exec (.pushRp .de) wide = .next (after (exec (.pushRp .de) wide)) ∧
    exec (.callAddr16 0x1234) wide = .next (after (exec (.callAddr16 0x1234) wide)) ∧
    exec (.callt 31) wide = .next (after (exec (.callt 31) wide)) :=
  ⟨rfl, rfl, rfl⟩

/-- StandbyStep: standby with an empty script, and with each platform input. -/
theorem test_witness_standby :
    ({ wide with mode := .stop } : State).mode ≠ .run ∧ wide.inputs = [] ∧
    PlatformInput.quiet.reset = false ∧ PlatformInput.quiet.release = false ∧
    (offering 0x0006 true).release = true ∧
    canAcknowledge (offering 0x0006 true) { wide with mode := .halt } = none ∧
    canAcknowledge (offering 0x0006 true) { requested with mode := .halt } =
      some (0x0006, false) := by
  decide

/-- NmisBlocks: in run mode and in standby, with a request offered and no RESET. -/
theorem test_witness_nmis_blocks :
    ({ requested with nmis := true, inputs := [offering 0x0004 true] } : State).nmis = true ∧
    (offering 0x0004 true).reset = false ∧ requested.mode = .run ∧
    canAcknowledge (offering 0x0004 true) { requested with nmis := true } = none ∧
    ({ requested with nmis := true, mode := .stop } : State).mode ≠ .run := by
  decide

/-- MachineStep, HoldWindow, NmisBlocks: the inputs, and a fetch that answers and one that
stops. -/
theorem test_witness_machine_step :
    resetting.reset = true ∧ (offering 0x0006 false).reset = false ∧ wide.mode = .run ∧
    canAcknowledge .quiet wide = none ∧ fetchInstr wide = .ok .nop ∧
    fetchInstr { wide with pc := 0x2000 } = .error (.refused (.fetchRight 0x2000)) ∧
    (step { wide with nmis := true } = .next (after (step { wide with nmis := true }))) ∧
    ({ wide with hold := true, inputs := [offering 0x0006 false] } : State).hold = true :=
  ⟨rfl, rfl, rfl, rfl, rfl, rfl, rfl, rfl⟩

/-- StepRunsDecoded: a four-byte instruction in the last four bytes of ROM. -/
theorem test_witness_step_runs_decoded :
    let s : State := { wide with
      pc := 0x1FFC, mem := [(0x1FFC, 0x0A), (0x1FFD, 0x88), (0x1FFE, 0x40), (0x1FFF, 0x0C)] }
    (Instr.btSaddr 0 0x40 0x0C).wf = true ∧ s.mode = .run ∧ s.inputs = [] ∧
    encode (.btSaddr 0 0x40 0x0C) = [0x0A, 0x88, 0x40, 0x0C] ∧
    fetchByte 0x1FFC s = .ok 0x0A ∧ fetchByte 0x1FFD s = .ok 0x88 ∧
    fetchByte 0x1FFE s = .ok 0x40 ∧ fetchByte 0x1FFF s = .ok 0x0C :=
  ⟨by decide, rfl, rfl, by decide, rfl, rfl, rfl, rfl⟩

/-- ResetStep: the reset vector held in ROM. -/
theorem test_witness_reset : resetting.reset = true ∧ resetting.sfr = [] ∧
    region wideProd 0x0000 = .rom ∧ region wideProd 0x0001 = .rom ∧
    memGet wide.mem 0 = some 0x80 ∧ memGet wide.mem 1 = some 0x00 := by
  decide

/-- InvKept, RomKept: a state that meets the invariant and steps, with a ROM and an EEPROM
address. -/
theorem test_witness_invariant : Memory.wf wide.mem ∧ PswShape start ∧ PswShape wide ∧
    step wide = .next (after (step wide)) ∧ region wide.prod 0x0000 = .rom ∧
    region wide.prod 0xF800 = .eeprom :=
  ⟨by decide, by unfold PswShape; decide, by unfold PswShape; decide, rfl, rfl, rfl⟩

end Sys2Proof.Tests
end

/-! The scope family: the arithmetic helpers of 00_scope.md R12 and the eight 8-bit operations of
42_operation_8bit.md in all their operand forms. -/

namespace Sys2Proof.Scope

open Sys2Proof.Machine Sys2Proof.Claims

/-! ### The arithmetic helpers over naturals and integers (00_scope.md R12) -/

theorem add8_res_toNat (a b : Byte) (c : Bool) :
    (add8 a b c).res.toNat = (a.toNat + b.toNat + c.toNat) % 256 := BitVec.toNat_ofNat ..

theorem sub8_res_toInt (a b : Byte) (c : Bool) :
    ((sub8 a b c).res.toNat : Int) = ((a.toNat : Int) - b.toNat - c.toNat) % 256 := by
  simp only [sub8, BitVec.toNat_ofInt]; omega

/-- The same difference as a natural number: the borrow is repaid by adding 256 first. -/
theorem sub8_res_toNat (a b : Byte) (c : Bool) :
    (sub8 a b c).res.toNat = (a.toNat + 256 - b.toNat - c.toNat) % 256 := by
  have hint := sub8_res_toInt a b c
  have hc := c.toNat_le
  omega

theorem add16_res_toNat (a b : Word) :
    (add16 a b).res.toNat = (a.toNat + b.toNat) % 65536 := BitVec.toNat_ofNat ..

theorem sub16_res_toInt (a b : Word) :
    ((sub16 a b).res.toNat : Int) = ((a.toNat : Int) - b.toNat) % 65536 := by
  simp only [sub16, BitVec.toNat_ofInt]; omega

/-- The borrow of an 8-bit subtraction, as a comparison of naturals. -/
theorem sub8_cy (a b : Byte) (c : Bool) :
    (sub8 a b c).cy = decide (a.toNat < b.toNat + c.toNat) := by
  simp only [sub8, decide_eq_decide]; omega

/-- The half borrow of an 8-bit subtraction, as a comparison of naturals. -/
theorem sub8_ac (a b : Byte) (c : Bool) :
    (sub8 a b c).ac = decide (a.toNat % 16 < b.toNat % 16 + c.toNat) := by
  simp only [sub8, decide_eq_decide]; omega

/-- Settles O14: the results are the lemmas above, each flag is the decision of its formula. -/
theorem arithmeticHelpers : Obligations.ArithmeticHelpers :=
  ⟨fun a b c => ⟨add8_res_toNat a b c, decide_eq_true_iff, decide_eq_true_iff, decide_eq_true_iff⟩,
    fun a b c => ⟨sub8_res_toInt a b c, decide_eq_true_iff, decide_eq_true_iff, decide_eq_true_iff⟩,
    fun a b => ⟨add16_res_toNat a b, decide_eq_true_iff, decide_eq_true_iff⟩,
    fun a b => ⟨sub16_res_toInt a b, decide_eq_true_iff, decide_eq_true_iff⟩⟩

/-! ### What an operation computes (42_operation_8bit.md R237) -/

/-- An arithmetic operation sets Z, AC and CY of PSW and no other bit (10_state.md R31). -/
theorem pswAlu_toAlu (p : Byte) (r : Arith8) : ZAcCySet p (pswAlu p r.toAlu) r.z r.ac r.cy := by
  simp only [ZAcCySet, pswAlu, Arith8.toAlu, pswSetFlag_getLsbD, Flag.bit, pswZBit, pswAcBit,
    pswCyBit]
  refine ⟨by simp, by simp, by simp, fun i hz hac hcy => ?_⟩
  simp [hz, hac, hcy]

/-- A logical operation sets Z of PSW and no other bit (10_state.md R31). -/
theorem pswAlu_logicAlu (p res : Byte) :
    BitSet p (pswAlu p (logicAlu res)) 6 (decide (res = 0#8)) :=
  fun i => pswSetFlag_getLsbD p .z _ i

/-- The eight operations compute what the rules say. -/
theorem aluEval_spec (op : AluOp) (dst src : Byte) (c : Bool) (p : Byte) :
    AluSpec op dst src c (aluEval op dst src c).res p (pswAlu p (aluEval op dst src c)) := by
  have sub : ∀ d : Bool, (sub8 dst src d).toAlu.res.toNat =
        (dst.toNat + 256 - src.toNat - d.toNat) % 256 ∧
      ZAcCySet p (pswAlu p (sub8 dst src d).toAlu) (decide ((sub8 dst src d).res = 0#8))
        (decide (dst.toNat % 16 < src.toNat % 16 + d.toNat))
        (decide (dst.toNat < src.toNat + d.toNat)) := fun d =>
    ⟨sub8_res_toNat dst src d, sub8_ac dst src d ▸ sub8_cy dst src d ▸ pswAlu_toAlu p _⟩
  cases op with
  | add => exact ⟨add8_res_toNat dst src false, pswAlu_toAlu p _⟩
  | addc => exact ⟨add8_res_toNat dst src c, pswAlu_toAlu p _⟩
  | sub | cmp => exact sub false
  | subc => exact sub c
  | and => exact ⟨fun i => BitVec.getLsbD_and, pswAlu_logicAlu p _⟩
  | or => exact ⟨fun i => BitVec.getLsbD_or, pswAlu_logicAlu p _⟩
  | xor => exact ⟨fun i => BitVec.getLsbD_xor, pswAlu_logicAlu p _⟩

/-! ### Forms with destination A -/

/-- All an operation on A does: A (but for `CMP`), PSW, PC and `hold`. -/
theorem aluA_eq (op : AluOp) (src : Byte) (n : Nat) (s : State) :
    aluA op src n s =
      let r := aluEval op s.regs.a src (s.psw.getLsbD 0)
      { s with
        regs := aluRegs op s.regs r.res, psw := pswAlu s.psw r, pc := s.pc + BitVec.ofNat 16 n,
        hold := false } := by
  cases op <;> rfl

theorem exec_aluByteInstr (op : AluOp) (data : Byte) (s : State) :
    exec (aluByteInstr op data) s = .next (aluA op data 2 s) := by
  cases op <;> rfl

theorem exec_aluRegInstr (op : AluOp) (r : Reg) (s : State) :
    exec (aluRegInstr op r) s = .next (aluA op (s.regs.get r) 2 s) := by
  cases op <;> rfl

/-- Settles O22. -/
theorem aluRegister : Obligations.AluRegister := fun op s data r =>
  ⟨⟨_, _, aluEval_spec op s.regs.a data _ s.psw,
      (exec_aluByteInstr op data s).trans (congrArg _ (aluA_eq op data 2 s))⟩,
    ⟨_, _, aluEval_spec op s.regs.a (s.regs.get r) _ s.psw,
      (exec_aluRegInstr op r s).trans (congrArg _ (aluA_eq op _ 2 s))⟩⟩

/-- Each memory-source form finds its address and runs the shared operation there. -/
theorem exec_aluMemInstr {op : AluOp} {f : MemForm} {i : Instr} {n : Nat} (s : State)
    (h : aluMemInstr op f = some (i, n)) :
    exec i s = toOutcome (f.ea s >>= fun ea => aluMem op ea n s) := by
  cases f with
  | saddr so | addr16 addr | hl | hlb data => cases h; cases op <;> rfl
  | sfr fo | de | saddrp so => cases h

/-- Where the byte can be read, an operation on A and memory is the operation on A and the byte. -/
theorem aluMem_of_read (op : AluOp) {ea : Word} (n : Nat) {s s1 : State} {v : Byte}
    (h : memRead .byte ea s = .ok (v, s1)) : aluMem op ea n s = .ok (aluA op v n s1) :=
  res_bind_ok.2 ⟨_, h, rfl⟩

/-- Settles O23: the read keeps the registers, PSW and PC the operation then works on. -/
theorem aluMemorySource : Obligations.AluMemorySource := by
  intro op f i n s s1 ea v hi hea hread
  have acc := memRead_accessed hread
  have hexec : exec i s = .next (aluA op v n s1) := by
    rw [exec_aluMemInstr s hi, hea]
    exact toOutcome_eq_next.2 (aluMem_of_read op n hread)
  refine ⟨acc, memRead_mem hread, _, _, aluEval_spec op s.regs.a v _ s.psw, ?_⟩
  rw [hexec, aluA_eq, acc.regs, acc.psw, acc.pc]

/-! ### The form with a memory destination -/

theorem exec_aluSaddrInstr (op : AluOp) (so data : Byte) (s : State) :
    exec (aluSaddrInstr op so data) s =
      toOutcome (eaSaddr so >>= fun ea => aluAt op ea data 3 s) := by
  cases op <;> rfl

/-- A byte goes to memory or to a device register, not to both. -/
theorem not_isDevice_of_isCell {p : Product} {a : Word} (h : isCell p a) : ¬ isDevice p a := by
  rintro ⟨hsfr, e, he, hdev⟩
  obtain hr | hr | hr | hr | ⟨-, e', he', hst⟩ := h
  case inr.inr.inr.inr => simp_all
  all_goals simp [hsfr] at hr

/-- A write where the unit may write completes (20_memory.md R69, R68). -/
theorem memWrite_of_writable {u : AccessUnit} {a : Word} {s : State} (v : Byte)
    (h : Writable u s.prod a) : ∃ t, memWrite u a v s = .ok t := by
  obtain hr | hr | ⟨hr, e, he, hu, hw⟩ := h
  · exact ⟨s.storeByte a v, by simp only [memWrite, hr]⟩
  · exact ⟨s.storeByte a v, by simp only [memWrite, hr]⟩
  · cases hk : e.kind <;> simp [memWrite, sfrWrite, hr, he, hu, hw, hk]

/-- A byte written to a cell of memory is listed there. -/
theorem memGet_memWrite_self {u : AccessUnit} {a : Word} {v : Byte} {s t : State}
    (h : memWrite u a v s = .ok t) (hc : isCell s.prod a) : memGet t.mem a.toNat = some v := by
  obtain ⟨rfl, -⟩ | ⟨-, hdev⟩ := memWrite_ok h
  · exact memGet_memPut_self ..
  · exact absurd hdev (not_isDevice_of_isCell hc)

/-- Where the byte can be read and the write, if there is one, completes, so does the operation. -/
theorem aluAt_of_read {op : AluOp} {ea : Word} {data v : Byte} (n : Nat) {s s1 s2 : State}
    (hread : memRead .byte ea s = .ok (v, s1))
    (hwrite : writeIf op.stores ea (aluEval op v data (s1.flag .cy)).res s1 = .ok s2) :
    aluAt op ea data n s = .ok ((s2.setAlu (aluEval op v data (s1.flag .cy))).done n) :=
  res_bind_ok.2 ⟨_, hread, res_bind_ok.2 ⟨_, hwrite, rfl⟩⟩

/-- `op saddr, #byte` after its read and its write, whose frame keeps PSW and PC. -/
theorem exec_aluSaddrInstr_of_read {op : AluOp} {so data v : Byte} {s s1 s2 : State} {ea : Word}
    {stores : List Word} (hea : eaSaddr so = .ok ea)
    (hread : memRead .byte ea s = .ok (v, s1))
    (hwrite : writeIf op.stores ea (aluEval op v data (s.psw.getLsbD 0)).res s1 = .ok s2)
    (acc : Accessed s s2 stores) :
    exec (aluSaddrInstr op so data) s = .next { s2 with
      psw := pswAlu s.psw (aluEval op v data (s.psw.getLsbD 0)), pc := s.pc + 3#16,
      hold := false } := by
  rw [exec_aluSaddrInstr, hea, ← acc.pc]
  have hcy : s1.flag .cy = s.psw.getLsbD 0 :=
    congrArg (BitVec.getLsbD · 0) (memRead_accessed hread).psw
  rw [← hcy] at hwrite ⊢
  rw [← acc.psw]
  exact toOutcome_eq_next.2 (aluAt_of_read 3 hread hwrite)

theorem stores_of_ne_cmp {op : AluOp} (h : op ≠ .cmp) : op.stores = true := by
  cases op with
  | cmp => exact absurd rfl h
  | add | addc | sub | subc | and | or | xor => rfl

/-- Settles O24: `CMP` ends after the read, the other seven write the result back. -/
theorem aluSaddrByte : Obligations.AluSaddrByte := by
  intro op so data s s1 ea v hea hread hwritable
  have acc1 := memRead_accessed hread
  refine ⟨_, _, aluEval_spec op v data _ s.psw, ?_⟩
  split
  next hcmp =>
    subst hcmp
    exact ⟨exec_aluSaddrInstr_of_read hea hread rfl acc1, acc1, memRead_mem hread⟩
  next hcmp =>
    obtain ⟨s2, hwrite⟩ := memWrite_of_writable
      (aluEval op v data (s.psw.getLsbD 0)).res (acc1.prod ▸ hwritable hcmp)
    have acc2 : Accessed s s2 [ea] := acc1.trans (memWrite_accessed hwrite)
    refine ⟨s2, hwrite, exec_aluSaddrInstr_of_read hea hread ?_ acc2, acc2, fun hcell =>
      memGet_memWrite_self hwrite (acc1.prod ▸ hcell)⟩
    rw [stores_of_ne_cmp hcmp]
    exact hwrite

end Sys2Proof.Scope

/-! The state family (10_state.md): what each instruction may change, the interrupt boundary, RESET,
and the operations on registers, pairs, PSW, the stack and the counters. -/

namespace Sys2Proof.StateRules

open Sys2Proof.Machine Sys2Proof.Claims Sys2Proof.Scope

/-! ### What an instruction may change

An instruction is a chain of memory accesses and field updates, then `goTo`. `Permitted i` is the
frame that every link of the chain keeps; it composes, so each shape of rule is its links. -/

/-- From `s` to `t` only what instruction `i` may change before its end has changed, and the
invariant is kept. -/
structure Permitted (i : Instr) (s t : State) : Prop where
  regs : ∀ r, r ∉ regsWritten i → t.regs.get r = s.regs.get r
  sp : writesSp i = false → t.sp = s.sp
  psw : ∀ bits, pswBits i = some bits → ∀ k, k ∉ bits → t.psw.getLsbD k = s.psw.getLsbD k
  pc : t.pc = s.pc
  nmis : i ≠ .reti → t.nmis = s.nmis
  mode : i ≠ .halt → i ≠ .stop → t.mode = s.mode
  intc : t.intc = s.intc
  inputs : t.inputs = s.inputs
  prod : t.prod = s.prod
  inv : Inv s → Inv t

/-- Instruction `i` may write the flag `f` (10_state.md R31). -/
def MayFlag (i : Instr) (f : Flag) : Prop := ∀ bits, pswBits i = some bits → f.bit ∈ bits

variable {i : Instr} {s t u : State}

theorem MayFlag.of_bits {f : Flag} {l : List Nat} (hb : pswBits i = some l) (hf : f.bit ∈ l) :
    MayFlag i f := fun bits hbits => by
  rw [hb] at hbits
  exact Option.some.inj hbits ▸ hf

theorem Permitted.refl (i : Instr) (s : State) : Permitted i s s :=
  ⟨fun _ _ => rfl, fun _ => rfl, fun _ _ _ _ => rfl, rfl, fun _ => rfl, fun _ _ => rfl, rfl, rfl,
    rfl, id⟩

theorem Permitted.trans (h : Permitted i s t) (g : Permitted i t u) : Permitted i s u where
  regs r hr := (g.regs r hr).trans (h.regs r hr)
  sp hs := (g.sp hs).trans (h.sp hs)
  psw bits hb k hk := (g.psw bits hb k hk).trans (h.psw bits hb k hk)
  pc := g.pc.trans h.pc
  nmis hi := (g.nmis hi).trans (h.nmis hi)
  mode hh hs := (g.mode hh hs).trans (h.mode hh hs)
  intc := g.intc.trans h.intc
  inputs := g.inputs.trans h.inputs
  prod := g.prod.trans h.prod
  inv hi := g.inv (h.inv hi)

/-- A memory access keeps the invariant: canonical memory by its frame, and PSW is not touched. -/
theorem inv_of_accessed {l : List Word} (h : Accessed s t l) (hs : Inv s) : Inv t := by
  obtain ⟨hwf, hshape⟩ := hs
  refine ⟨h.wf hwf, fun hp => ?_⟩
  rw [h.psw]
  exact hshape (h.prod ▸ hp)

theorem Permitted.of_accessed {l : List Word} (h : Accessed s t l) : Permitted i s t where
  regs _ _ := by rw [h.regs]
  sp _ := h.sp
  psw _ _ _ _ := by rw [h.psw]
  pc := h.pc
  nmis _ := h.nmis
  mode _ _ := h.mode
  intc := h.intc
  inputs := h.inputs
  prod := h.prod
  inv := inv_of_accessed h

theorem Permitted.setReg {r : Reg} (hr : r ∈ regsWritten i) (s : State) (v : Byte) :
    Permitted i s (s.setReg r v) :=
  { Permitted.refl i s with
    regs := fun q hq => by
      have hne : q ≠ r := fun e => hq (e ▸ hr)
      simp [hne]
    inv := id }

theorem Permitted.setPair (s : State) (p : RegPair) (w : Word)
    (hp : ∀ r ∈ [pairHigh p, pairLow p], r ∈ regsWritten i := by
      simp [regsWritten, pairHigh, pairLow]) : Permitted i s (s.setPair p w) :=
  (Permitted.setReg (hp _ (by simp)) s _).trans (.setReg (hp _ (by simp)) _ _)

/-- No flag is one of the four non-flag bits (10_state.md R26, R27). -/
theorem pswSetFlag_nonFlag (psw : Byte) (f : Flag) (v : Bool) {k : Nat} (hk : k ∈ [5, 3, 2, 1]) :
    (pswSetFlag psw f v).getLsbD k = psw.getLsbD k := by
  have hne : k ≠ f.bit := by rintro rfl; revert hk; cases f <;> decide
  rw [pswSetFlag_getLsbD, if_neg hne]

theorem inv_setFlag (f : Flag) (v : Bool) (hs : Inv s) : Inv (s.setFlag f v) := by
  obtain ⟨hwf, hshape⟩ := hs
  refine ⟨hwf, fun hp => ?_⟩
  have keep := fun k hk => pswSetFlag_nonFlag s.psw f v (k := k) hk
  rw [State.setFlag_psw, keep 5 (by decide), keep 3 (by decide), keep 2 (by decide),
    keep 1 (by decide)]
  exact hshape hp

theorem Permitted.setFlag {f : Flag} (hf : MayFlag i f) (s : State) (v : Bool) :
    Permitted i s (s.setFlag f v) :=
  { Permitted.refl i s with
    psw := fun bits hb k hk => by
      have hne : k ≠ f.bit := fun e => hk (e ▸ hf bits hb)
      simp [pswSetFlag_getLsbD, hne]
    inv := inv_setFlag f v }

theorem Permitted.setSp (hsp : writesSp i = true) (s : State) (w : Word) :
    Permitted i s (s.setSp w) :=
  { Permitted.refl i s with sp := fun h => by simp [hsp] at h, inv := id }

theorem Permitted.pswWrite (hp : pswBits i = none) (s : State) (v : Byte) :
    Permitted i s (pswWrite v s) := by
  have hshape := pswWrite_shape v s
  obtain ⟨p, n, e⟩ := pswWrite_eq v s
  rw [e] at hshape ⊢
  exact { Permitted.refl i s with
    psw := fun bits hb => by simp [hp] at hb
    inv := fun hs => ⟨hs.1, hshape⟩ }

/-- The PSW bits that one of the eight operations writes (10_state.md R31). -/
def aluBits : AluOp → List Nat
  | .and | .or | .xor => [6]
  | .add | .addc | .sub | .subc | .cmp => [6, 4, 0]

theorem Permitted.setAlu {op : AluOp} (hb : pswBits i = some (aluBits op)) (s : State)
    (dst src : Byte) (cy : Bool) : Permitted i s (s.setAlu (aluEval op dst src cy)) := by
  cases op with
  | and | or | xor => exact .setFlag (f := .z) (.of_bits hb (by decide)) _ _
  | add | addc | sub | subc | cmp =>
    exact ((Permitted.setFlag (f := .z) (.of_bits hb (by decide)) s _).trans
      (.setFlag (f := .ac) (.of_bits hb (by decide)) _ _)).trans
      (.setFlag (f := .cy) (.of_bits hb (by decide)) _ _)

theorem Permitted.setZAc (hz : MayFlag i .z) (hac : MayFlag i .ac) (s : State) (r : Arith8) :
    Permitted i s (s.setZAc r) :=
  (Permitted.setFlag hz s _).trans (.setFlag hac _ _)

theorem Permitted.setArith16 (hb : pswBits i = some [6, 4, 0]) (s : State) (r : Arith16) :
    Permitted i s (s.setArith16 r) :=
  (((Permitted.setFlag (f := .z) (.of_bits hb (by decide)) s _).trans
    (.setFlag (f := .cy) (.of_bits hb (by decide)) _ _)).trans
    (.setFlag (f := .ac) (.of_bits hb (by decide)) _ _)).trans (.of_accessed (accessed_drawn _ []))

/-- A push is a write at the new SP. -/
theorem push8_accessed {v : Byte} (h : push8 v s = .ok t) :
    Accessed (s.setSp (s.sp - 1#16)) t [s.sp - 1#16] :=
  memWrite_accessed (push8_ok h).2

/-- A pop is a read, and SP moved up. -/
theorem pop8_accessed {v : Byte} (h : pop8 s = .ok (v, t)) :
    Accessed (s.setSp (s.sp + 1#16)) t [] := by
  obtain ⟨-, s1, hread, rfl⟩ := pop8_ok h
  have acc := memRead_accessed hread
  exact { acc with sp := congrArg (· + 1#16) acc.sp }

theorem Permitted.push8 {v : Byte} (hsp : writesSp i = true) (h : push8 v s = .ok t) :
    Permitted i s t :=
  (Permitted.setSp hsp s _).trans (.of_accessed (push8_accessed h))

theorem Permitted.pop8 {v : Byte} (hsp : writesSp i = true) (h : pop8 s = .ok (v, t)) :
    Permitted i s t :=
  (Permitted.setSp hsp s _).trans (.of_accessed (pop8_accessed h))

theorem Permitted.push16 {w : Word} (hsp : writesSp i = true) (h : push16 w s = .ok t) :
    Permitted i s t := by
  obtain ⟨s1, hhi, hlo⟩ := push16_ok h
  exact (Permitted.push8 hsp hhi).trans (.push8 hsp hlo)

theorem Permitted.pop16 {w : Word} (hsp : writesSp i = true) (h : pop16 s = .ok (w, t)) :
    Permitted i s t := by
  obtain ⟨lo, hi, s1, hlo, hhi, -⟩ := pop16_ok h
  exact (Permitted.pop8 hsp hlo).trans (.pop8 hsp hhi)

/-! ### The end of an instruction -/

/-- All an instruction does when it answers `t`: permitted changes, then PC and `hold`; PC goes to
the next instruction unless `i` transfers control (10_state.md R24, R34). -/
def Effect (i : Instr) (s t : State) : Prop :=
  ∃ u q, Permitted i s u ∧ t = u.goTo q (setsHold i) ∧
    (transfersControl i = false → q = u.next (encode i).length)

theorem Permitted.done {n : Nat} (h : Permitted i s u) (hn : (encode i).length = n := by rfl)
    (hh : setsHold i = false := by rfl) : Effect i s (u.done n) :=
  ⟨u, _, h, by rw [hh]; rfl, fun _ => by rw [hn]⟩

theorem Permitted.doneHold {n : Nat} (h : Permitted i s u) (hn : (encode i).length = n := by rfl)
    (hh : setsHold i = true := by rfl) : Effect i s (u.doneHold n) :=
  ⟨u, _, h, by rw [hh]; rfl, fun _ => by rw [hn]⟩

theorem Permitted.goTo (h : Permitted i s u) (q : Word) (ht : transfersControl i = true := by rfl)
    {b : Bool} (hh : setsHold i = b := by rfl) : Effect i s (u.goTo q b) :=
  ⟨u, q, h, by rw [hh], fun hf => by simp [ht] at hf⟩

theorem Permitted.branchIf (h : Permitted i s u) (taken : Bool) (n : Nat) (jd : Byte)
    (ht : transfersControl i = true := by rfl) (hh : setsHold i = false := by rfl) :
    Effect i s (u.branchIf taken n jd) :=
  h.goTo _ ht hh

/-- An instruction that always completes has the effect of the state it gives. -/
theorem Effect.of_next (h : (Host.Outcome.next u : Out State) = .next t) (e : Effect i s u) :
    Effect i s t := by
  cases h; exact e

/-! ### The shapes of the rules -/

theorem loadA_effect {ea : Word} {n : Nat} (h : loadA ea n s = .ok t) (hr : .a ∈ regsWritten i)
    (hn : (encode i).length = n := by rfl) (hh : setsHold i = false := by rfl) : Effect i s t := by
  obtain ⟨v, s1, hread, rfl⟩ := loadA_ok h
  exact ((Permitted.of_accessed (memRead_accessed hread)).trans (.setReg hr _ _)).done hn hh

theorem storeAt_effect {ea : Word} {v : Byte} {n : Nat} (h : storeAt ea v n s = .ok t)
    (hn : (encode i).length = n := by rfl) (hh : setsHold i = false := by rfl) : Effect i s t := by
  obtain ⟨s1, hwrite, rfl⟩ := storeAt_ok h
  exact (Permitted.of_accessed (memWrite_accessed hwrite)).done hn hh

theorem xchA_effect {ea : Word} {n : Nat} (h : xchA ea n s = .ok t) (hr : .a ∈ regsWritten i)
    (hn : (encode i).length = n := by rfl) (hh : setsHold i = false := by rfl) : Effect i s t := by
  obtain ⟨v, s1, s2, hread, hwrite, rfl⟩ := xchA_ok h
  have acc := (memRead_accessed hread).trans (memWrite_accessed hwrite)
  exact ((Permitted.of_accessed acc).trans (.setReg hr _ _)).done hn hh

theorem aluA_effect {op : AluOp} {src : Byte} {n : Nat} (p : Permitted i s u)
    (hr : op.stores = true → .a ∈ regsWritten i) (hb : pswBits i = some (aluBits op))
    (hn : (encode i).length = n := by rfl) (hh : setsHold i = false := by rfl) :
    Effect i s (aluA op src n u) := by
  have hstore : Permitted i s
      (if op.stores then u.setReg .a (aluEval op (u.reg .a) src (u.flag .cy)).res else u) := by
    split
    next hs => exact p.trans (.setReg (hr hs) _ _)
    next => exact p
  exact (hstore.trans (.setAlu hb _ _ _ _)).done hn hh

theorem aluMem_effect {op : AluOp} {ea : Word} {n : Nat} (h : aluMem op ea n s = .ok t)
    (hr : op.stores = true → .a ∈ regsWritten i) (hb : pswBits i = some (aluBits op))
    (hn : (encode i).length = n := by rfl) (hh : setsHold i = false := by rfl) : Effect i s t := by
  obtain ⟨v, s1, hread, rfl⟩ := aluMem_ok h
  exact aluA_effect (.of_accessed (memRead_accessed hread)) hr hb hn hh

theorem aluAt_effect {op : AluOp} {ea : Word} {data : Byte} {n : Nat}
    (h : aluAt op ea data n s = .ok t) (hb : pswBits i = some (aluBits op))
    (hn : (encode i).length = n := by rfl) (hh : setsHold i = false := by rfl) : Effect i s t := by
  obtain ⟨v, s1, s2, hread, hwrite, rfl⟩ := aluAt_ok h
  have acc : Permitted i s s2 := by
    split at hwrite
    next => exact .of_accessed ((memRead_accessed hread).trans (memWrite_accessed hwrite))
    next => exact hwrite ▸ .of_accessed (memRead_accessed hread)
  exact (acc.trans (.setAlu hb _ _ _ _)).done hn hh

theorem incDecAt_effect {f : Byte → Arith8} {ea : Word} {n : Nat}
    (h : incDecAt f ea n s = .ok t) (hz : MayFlag i .z) (hac : MayFlag i .ac)
    (hn : (encode i).length = n := by rfl) (hh : setsHold i = false := by rfl) : Effect i s t := by
  obtain ⟨v, s1, s2, hread, hwrite, rfl⟩ := incDecAt_ok h
  have acc := (memRead_accessed hread).trans (memWrite_accessed hwrite)
  exact ((Permitted.of_accessed acc).trans (.setZAc hz hac _ _)).done hn hh

theorem modifyBitAt_effect {f : Byte → Byte} {ea : Word} {n : Nat}
    (h : modifyBitAt f ea n s = .ok t) (hn : (encode i).length = n := by rfl)
    (hh : setsHold i = false := by rfl) : Effect i s t := by
  obtain ⟨v, s1, s2, hread, hwrite, rfl⟩ := modifyBitAt_ok h
  have acc := (memRead_accessed hread).trans (memWrite_accessed hwrite)
  exact (Permitted.of_accessed acc).done hn hh

theorem branchOnBitAt_effect {want : Bool} {ea : Word} {b : BitVec 3} {n : Nat} {jd : Byte}
    (h : branchOnBitAt want ea b n jd s = .ok t) (ht : transfersControl i = true := by rfl)
    (hh : setsHold i = false := by rfl) : Effect i s t := by
  obtain ⟨v, s1, hread, rfl⟩ := branchOnBitAt_ok h
  exact (Permitted.of_accessed (memRead_accessed hread)).branchIf _ _ _ ht hh

/-- The flag a `PSW.bit` operand names sits at that bit (45_bit_manipulation.md R274). -/
theorem pswBitFlag_ok {b : BitVec 3} {f : Flag} (h : pswBitFlag b = .ok f) : f.bit = b.toNat := by
  unfold pswBitFlag at h
  split at h
  next g hg =>
    cases h
    revert b f
    decide
  next => cases h

/-- Every shape and every operation stays within what the tables name for the instruction. -/
theorem exec_effect (h : exec i s = .next t) : Effect i s t := by
  cases i with
  -- loads, stores and exchanges of a byte
  | movASaddr so | movASfr fo =>
    obtain ⟨ea, -, h⟩ := res_bind_ok.1 (toOutcome_eq_next.1 h)
    exact loadA_effect h List.mem_cons_self
  | movAAddr16 addr | movADe | movAHl | movAHlb data =>
    exact loadA_effect (toOutcome_eq_next.1 h) List.mem_cons_self
  | movSaddrByte so data | movSfrByte so data | movSaddrA so | movSfrA fo =>
    obtain ⟨ea, -, h⟩ := res_bind_ok.1 (toOutcome_eq_next.1 h)
    exact storeAt_effect h
  | movAddr16A addr | movDeA | movHlA | movHlbA data =>
    exact storeAt_effect (toOutcome_eq_next.1 h)
  | xchASaddr so | xchASfr fo =>
    obtain ⟨ea, -, h⟩ := res_bind_ok.1 (toOutcome_eq_next.1 h)
    exact xchA_effect h List.mem_cons_self
  | xchADe | xchAHl | xchAHlb data =>
    exact xchA_effect (toOutcome_eq_next.1 h) List.mem_cons_self
  -- registers, pairs, SP
  | movRByte r data | movAR r | movRA r =>
    exact .of_next h (Permitted.setReg List.mem_cons_self _ _).done
  | xchAX | xchAR r =>
    exact .of_next h ((Permitted.setReg List.mem_cons_self _ _).trans
      (.setReg (List.mem_cons_of_mem _ List.mem_cons_self) _ _)).done
  | movwRpWord rp word | movwRpAx rp | incwRp rp | decwRp rp =>
    exact .of_next h (Permitted.setPair s rp _).done
  | movwAxRp rp | movwAxSp =>
    exact .of_next h (Permitted.setPair s .ax _).done
  | xchwAxRp rp =>
    exact .of_next h ((Permitted.setPair s .ax _).trans (.setPair _ rp _)).done
  | movwSpAx => exact .of_next h (Permitted.setSp rfl _ _).done
  | movwAxSaddrp so =>
    obtain ⟨ea, -, h⟩ := res_bind_ok.1 (toOutcome_eq_next.1 h)
    obtain ⟨⟨v, s1⟩, hread, h⟩ := res_bind_ok.1 h
    cases h
    exact ((Permitted.of_accessed (memRead2_accessed hread)).trans
      (.setPair _ .ax _)).done
  | movwSaddrpAx so =>
    obtain ⟨ea, -, h⟩ := res_bind_ok.1 (toOutcome_eq_next.1 h)
    obtain ⟨s1, hwrite, h⟩ := res_bind_ok.1 h
    cases h
    exact (Permitted.of_accessed (memWrite2_accessed hwrite)).done
  -- PSW as a byte
  | movPswByte data | movPswA => exact .of_next h (Permitted.pswWrite rfl _ _).doneHold
  | movAPsw =>
    exact .of_next h ((Permitted.of_accessed (pswRead_accessed s)).trans
      (.setReg List.mem_cons_self _ _)).done
  -- the eight operations
  | addAByte data | addcAByte data | subAByte data | subcAByte data | andAByte data | orAByte data
  | xorAByte data | addAR r | addcAR r | subAR r | subcAR r | andAR r | orAR r | xorAR r =>
    exact .of_next h (aluA_effect (.refl _ _) (fun _ => List.mem_cons_self) rfl)
  | cmpAByte data | cmpAR r => exact .of_next h (aluA_effect (.refl _ _) nofun rfl)
  | addASaddr so | addcASaddr so | subASaddr so | subcASaddr so | andASaddr so | orASaddr so
  | xorASaddr so =>
    obtain ⟨ea, -, h⟩ := res_bind_ok.1 (toOutcome_eq_next.1 h)
    exact aluMem_effect h (fun _ => List.mem_cons_self) rfl
  | addAAddr16 addr | addcAAddr16 addr | subAAddr16 addr | subcAAddr16 addr | andAAddr16 addr
  | orAAddr16 addr | xorAAddr16 addr | addAHl | addcAHl | subAHl | subcAHl | andAHl | orAHl | xorAHl
  | addAHlb data | addcAHlb data | subAHlb data | subcAHlb data | andAHlb data | orAHlb data
  | xorAHlb data =>
    exact aluMem_effect (toOutcome_eq_next.1 h) (fun _ => List.mem_cons_self) rfl
  | cmpASaddr so =>
    obtain ⟨ea, -, h⟩ := res_bind_ok.1 (toOutcome_eq_next.1 h)
    exact aluMem_effect h nofun rfl
  | cmpAAddr16 addr | cmpAHl | cmpAHlb data =>
    exact aluMem_effect (toOutcome_eq_next.1 h) nofun rfl
  | addSaddrByte so data | addcSaddrByte so data | subSaddrByte so data | subcSaddrByte so data
  | andSaddrByte so data | orSaddrByte so data | xorSaddrByte so data | cmpSaddrByte so data =>
    obtain ⟨ea, -, h⟩ := res_bind_ok.1 (toOutcome_eq_next.1 h)
    exact aluAt_effect h rfl
  | addwAxWord word | subwAxWord word =>
    exact .of_next h ((Permitted.setPair s .ax _).trans
      (.setArith16 rfl _ _)).done
  | cmpwAxWord word => exact .of_next h (Permitted.setArith16 rfl _ _).done
  -- increment, decrement, rotate
  | incR r | decR r =>
    exact .of_next h ((Permitted.setReg List.mem_cons_self _ _).trans
      (.setZAc (.of_bits rfl (by decide)) (.of_bits rfl (by decide)) _ _)).done
  | incSaddr so | decSaddr so =>
    obtain ⟨ea, -, h⟩ := res_bind_ok.1 (toOutcome_eq_next.1 h)
    exact incDecAt_effect h (.of_bits rfl (by decide)) (.of_bits rfl (by decide))
  | ror | rol | rorc | rolc =>
    exact .of_next h ((Permitted.setReg List.mem_cons_self _ _).trans
      (.setFlag (.of_bits rfl (by decide)) _ _)).done
  -- bits
  | set1Saddr b so | set1Sfr b fo | clr1Saddr b so | clr1Sfr b fo =>
    obtain ⟨ea, -, h⟩ := res_bind_ok.1 (toOutcome_eq_next.1 h)
    exact modifyBitAt_effect h
  | set1Hl b | clr1Hl b => exact modifyBitAt_effect (toOutcome_eq_next.1 h)
  | set1A b | clr1A b => exact .of_next h (Permitted.setReg List.mem_cons_self _ _).done
  | set1Psw b =>
    obtain ⟨f, hf, h⟩ := res_bind_ok.1 (toOutcome_eq_next.1 h)
    cases h
    exact (Permitted.setFlag (.of_bits rfl (by simp [pswBitFlag_ok hf])) _ _).done
  | clr1Psw b =>
    obtain ⟨f, hf, h⟩ := res_bind_ok.1 (toOutcome_eq_next.1 h)
    cases h
    exact ⟨_, _, .setFlag (.of_bits rfl (by simp [pswBitFlag_ok hf])) s false, rfl, fun _ => rfl⟩
  | set1Cy | clr1Cy | not1Cy =>
    exact .of_next h (Permitted.setFlag (.of_bits rfl (by decide)) _ _).done
  -- call, return, stack
  | callAddr16 addr =>
    obtain ⟨s1, hpush, h⟩ := res_bind_ok.1 (toOutcome_eq_next.1 h)
    cases h
    exact (Permitted.push16 rfl hpush).goTo _
  | callt k =>
    obtain ⟨⟨q, s1⟩, hread, h⟩ := res_bind_ok.1 (toOutcome_eq_next.1 h)
    obtain ⟨s2, hpush, h⟩ := res_bind_ok.1 h
    cases h
    exact ((Permitted.of_accessed (memRead2_accessed hread)).trans (.push16 rfl hpush)).goTo _
  | ret =>
    obtain ⟨⟨q, s1⟩, hpop, h⟩ := res_bind_ok.1 (toOutcome_eq_next.1 h)
    cases h
    exact (Permitted.pop16 rfl hpop).goTo _
  | reti =>
    obtain ⟨q, s1, p, s2, hpop16, hpop8, rfl⟩ := interruptReturn_ok (toOutcome_eq_next.1 h)
    have restored : Permitted .reti s (pswWrite p s2) :=
      ((Permitted.pop16 rfl hpop16).trans (.pop8 rfl hpop8)).trans (.pswWrite rfl _ _)
    exact Permitted.goTo (u := { pswWrite p s2 with nmis := false })
      { restored with nmis := fun hne => absurd rfl hne } q
  | pushPsw =>
    obtain ⟨s1, hpush, h⟩ := res_bind_ok.1 (toOutcome_eq_next.1 h)
    cases h
    exact ((Permitted.of_accessed (pswRead_accessed s)).trans (.push8 rfl hpush)).done
  | pushRp rp =>
    obtain ⟨s1, hpush, h⟩ := res_bind_ok.1 (toOutcome_eq_next.1 h)
    cases h
    exact (Permitted.push16 rfl hpush).done
  | popPsw =>
    obtain ⟨⟨v, s1⟩, hpop, h⟩ := res_bind_ok.1 (toOutcome_eq_next.1 h)
    cases h
    exact ((Permitted.pop8 rfl hpop).trans (.pswWrite rfl _ _)).doneHold
  | popRp rp =>
    obtain ⟨⟨v, s1⟩, hpop, h⟩ := res_bind_ok.1 (toOutcome_eq_next.1 h)
    cases h
    exact ((Permitted.pop16 rfl hpop).trans (.setPair _ rp _)).done
  -- branches
  | brAddr16 addr | brAx => exact .of_next h ((Permitted.refl _ _).goTo _)
  | brRel jd | bc jd | bnc jd | bz jd | bnz jd | btA b jd | bfA b jd =>
    exact .of_next h ((Permitted.refl _ _).branchIf _ _ _)
  | btSaddr b so jd | btSfr b fo jd | bfSaddr b so jd | bfSfr b fo jd =>
    obtain ⟨ea, -, h⟩ := res_bind_ok.1 (toOutcome_eq_next.1 h)
    exact branchOnBitAt_effect h
  | btPsw b jd | bfPsw b jd =>
    obtain ⟨f, -, h⟩ := res_bind_ok.1 (toOutcome_eq_next.1 h)
    cases h
    exact (Permitted.refl _ _).branchIf _ _ _
  | dbnzB jd | dbnzC jd =>
    exact .of_next h ((Permitted.setReg List.mem_cons_self _ _).branchIf _ _ _)
  | dbnzSaddr so jd =>
    obtain ⟨ea, -, h⟩ := res_bind_ok.1 (toOutcome_eq_next.1 h)
    obtain ⟨⟨v, s1⟩, hread, h⟩ := res_bind_ok.1 h
    obtain ⟨s2, hwrite, h⟩ := res_bind_ok.1 h
    cases h
    exact (Permitted.of_accessed
      ((memRead_accessed hread).trans (memWrite_accessed hwrite))).branchIf _ _ _
  -- CPU control
  | nop => exact .of_next h (Permitted.refl _ _).done
  | ei => exact .of_next h (Permitted.setFlag (.of_bits rfl (by decide)) _ _).done
  | di => exact .of_next h (Permitted.setFlag (.of_bits rfl (by decide)) _ _).doneHold
  | halt | stop =>
    exact .of_next h (Permitted.done (u := s.setMode _)
      { Permitted.refl _ s with mode := by simp, inv := id })

/-! ### Which instructions write what -/

/-- Settles O42. -/
theorem pcAdvance : Obligations.PcAdvance := by
  intro i s t h htransfer
  obtain ⟨u, q, hu, rfl, hq⟩ := exec_effect h
  simp [hq htransfer, State.next, hu.pc]

/-- Settles O43. -/
theorem flagWriters : Obligations.FlagWriters := by
  intro i s t bits h hbits k hk
  obtain ⟨u, q, hu, rfl, -⟩ := exec_effect h
  exact hu.psw bits hbits k hk

/-- Settles O44. -/
theorem registerWriters : Obligations.RegisterWriters := by
  intro i s t h
  obtain ⟨u, q, hu, rfl, -⟩ := exec_effect h
  exact ⟨hu.regs, hu.sp⟩

theorem exec_reti_nmis (h : exec .reti s = .next t) : t.nmis = false := by
  obtain ⟨q, s1, p, s2, -, -, rfl⟩ := interruptReturn_ok (toOutcome_eq_next.1 h)
  rfl

theorem exec_nmis (h : exec i s = .next t) (hi : i ≠ .reti) : t.nmis = s.nmis := by
  obtain ⟨u, q, hu, rfl, -⟩ := exec_effect h
  exact hu.nmis hi

theorem exec_mode (h : exec i s = .next t) :
    t.mode = if i = .halt then .halt else if i = .stop then .stop else s.mode := by
  split
  next hi => subst hi; cases h; rfl
  next hhalt =>
    split
    next hi => subst hi; cases h; rfl
    next hstop =>
      obtain ⟨u, q, hu, rfl, -⟩ := exec_effect h
      exact hu.mode hhalt hstop

/-- Settles O45. -/
theorem controlStateWriters : Obligations.ControlStateWriters := by
  intro i s t h
  refine ⟨?_, exec_mode h, ?_⟩
  · split
    next hi => exact exec_reti_nmis (hi ▸ h)
    next hi => exact exec_nmis h hi
  · obtain ⟨u, q, hu, rfl, -⟩ := exec_effect h
    exact ⟨hu.intc, hu.inputs, hu.prod⟩

theorem exec_hold (h : exec i s = .next t) : t.hold = setsHold i := by
  obtain ⟨u, q, -, rfl, -⟩ := exec_effect h
  rfl

theorem exec_inv (h : exec i s = .next t) (hs : Inv s) : Inv t := by
  obtain ⟨u, q, hu, rfl, -⟩ := exec_effect h
  exact hu.inv hs

/-! ### The step, branch by branch (60_exceptions.md R364) -/

/-- The platform's input of the next step (log 9). -/
def stepInput (s : State) : PlatformInput := s.inputs.headD .quiet

/-- A step that begins with RESET. -/
theorem step_of_reset {inp : PlatformInput} {rest : List PlatformInput}
    (hin : s.inputs = inp :: rest) (hr : inp.reset = true) :
    step s = toOutcome ((resetInput { s with inputs := rest }).map (applyInput inp)) := by
  simp [step, machineStep, hin, stepWith, hr]

/-- A step that does not begin with RESET looks at the boundary state. -/
theorem step_of_not_reset (h : ∀ inp rest, s.inputs = inp :: rest → inp.reset = false) :
    step s = cycle (stepInput s) (boundaryState s) := by
  cases hin : s.inputs with
  | nil =>
    simp only [step, machineStep, boundaryState, stepInput, hin]
    rfl
  | cons inp rest => simp [step, machineStep, boundaryState, stepInput, hin, stepWith, h _ _ hin]

theorem boundaryState_of_inputs {inp : PlatformInput} {rest : List PlatformInput}
    (hin : s.inputs = inp :: rest) : boundaryState s = applyInput inp { s with inputs := rest } := by
  simp [boundaryState, hin]

theorem stepInput_of_inputs {inp : PlatformInput} {rest : List PlatformInput}
    (hin : s.inputs = inp :: rest) : stepInput s = inp := by
  simp [stepInput, hin]

/-- The same for a step whose script entry is known. -/
theorem step_of_inputs {inp : PlatformInput} {rest : List PlatformInput}
    (hin : s.inputs = inp :: rest) (hr : inp.reset = false) :
    step s = cycle inp (applyInput inp { s with inputs := rest }) := by
  rw [step_of_not_reset (fun inp' rest' h => by rw [hin] at h; cases h; exact hr),
    stepInput_of_inputs hin, boundaryState_of_inputs hin]

theorem boundaryState_mode (s : State) : (boundaryState s).mode = s.mode := by
  unfold boundaryState; split <;> rfl

theorem boundaryState_nmis (s : State) : (boundaryState s).nmis = s.nmis := by
  unfold boundaryState; split <;> rfl

theorem cycle_of_standby (inp : PlatformInput) (hm : s.mode ≠ .run) :
    cycle inp s = toOutcome (standbyStep inp s) := by
  unfold cycle
  split
  next => rfl
  next => rfl
  next hrun => exact absurd hrun hm

theorem cycle_of_acknowledge {inp : PlatformInput} {v : Word} {nmi : Bool} (hm : s.mode = .run)
    (ha : canAcknowledge inp s = some (v, nmi)) :
    cycle inp s = toOutcome (acknowledge v nmi inp.keepRequest s) := by
  simp [cycle, hm, ha]

theorem cycle_of_execute {inp : PlatformInput} (hm : s.mode = .run)
    (ha : canAcknowledge inp s = none) : cycle inp s = executeNext s := by
  simp [cycle, hm, ha]

theorem standbyStep_of_not_release {inp : PlatformInput} (hr : inp.release = false) :
    standbyStep inp s = .ok s := by
  simp [standbyStep, hr]

theorem standbyStep_of_none {inp : PlatformInput} (hr : inp.release = true)
    (ha : canAcknowledge inp s = none) : standbyStep inp s = .ok { s with mode := .run } := by
  simp [standbyStep, hr, ha]

theorem standbyStep_of_acknowledge {inp : PlatformInput} {v : Word} {nmi : Bool}
    (hr : inp.release = true) (ha : canAcknowledge inp s = some (v, nmi)) :
    standbyStep inp s = acknowledge v nmi inp.keepRequest s := by
  simp [standbyStep, hr, ha]

/-- Nothing is acknowledged with `hold` or NMIS set (60_exceptions.md R347). -/
theorem canAcknowledge_of_blocked (inp : PlatformInput) (h : s.hold = true ∨ s.nmis = true) :
    canAcknowledge inp s = none := by
  rcases h with h | h <;> simp [canAcknowledge, h]

theorem executeNext_next (h : executeNext s = .next t) :
    ∃ i, fetchInstr s = .ok i ∧ exec i s = .next t := by
  unfold executeNext at h
  split at h
  next i hi => exact ⟨i, hi, h⟩
  next => cases h
  next => cases h

/-- All a step without RESET can do: standby goes on or ends, a request is acknowledged, or an
instruction runs. -/
theorem cycle_next {inp : PlatformInput} (h : cycle inp s = .next t) :
    t = s ∨ t = { s with mode := .run } ∨
      (∃ v nmi, canAcknowledge inp s = some (v, nmi) ∧
        acknowledge v nmi inp.keepRequest s = .ok t) ∨
      (s.mode = .run ∧ ∃ i, fetchInstr s = .ok i ∧ exec i s = .next t) := by
  by_cases hm : s.mode = .run
  · cases ha : canAcknowledge inp s with
    | some r =>
      rw [cycle_of_acknowledge hm ha] at h
      exact .inr (.inr (.inl ⟨_, _, rfl, toOutcome_eq_next.1 h⟩))
    | none =>
      rw [cycle_of_execute hm ha] at h
      exact .inr (.inr (.inr ⟨hm, executeNext_next h⟩))
  · rw [cycle_of_standby inp hm, toOutcome_eq_next] at h
    cases hr : inp.release with
    | false =>
      rw [standbyStep_of_not_release hr] at h
      cases h; exact .inl rfl
    | true =>
      cases ha : canAcknowledge inp s with
      | some r =>
        rw [standbyStep_of_acknowledge hr ha] at h
        exact .inr (.inr (.inl ⟨_, _, rfl, h⟩))
      | none =>
        rw [standbyStep_of_none hr ha] at h
        cases h; exact .inr (.inl rfl)

/-- All a step can do: RESET, or a cycle at the boundary state. -/
theorem step_next (h : step s = .next t) :
    (∃ inp rest, s.inputs = inp :: rest ∧ inp.reset = true ∧
      ∃ u, resetInput { s with inputs := rest } = .ok u ∧ t = applyInput inp u) ∨
    cycle (stepInput s) (boundaryState s) = .next t := by
  by_cases hr : ∃ inp rest, s.inputs = inp :: rest ∧ inp.reset = true
  · obtain ⟨inp, rest, hin, hr⟩ := hr
    rw [step_of_reset hin hr] at h
    obtain ⟨u, hu, rfl⟩ := res_map_ok.1 (toOutcome_eq_next.1 h)
    exact .inl ⟨inp, rest, hin, hr, u, hu, rfl⟩
  · rw [step_of_not_reset (by simpa using hr)] at h
    exact .inr h

/-! ### The invariant (10_state.md R27, 20_memory.md R60) -/

theorem inv_push8 {v : Byte} (h : push8 v s = .ok t) (hs : Inv s) : Inv t :=
  inv_of_accessed (push8_accessed h) hs

theorem inv_acknowledge {v : Word} {nmi keep : Bool} (h : acknowledge v nmi keep s = .ok t)
    (hs : Inv s) : Inv t := by
  obtain ⟨s1, s2, target, s3, hpush8, hpush16, hread, rfl⟩ := acknowledge_ok h
  obtain ⟨s4, hhi, hlo⟩ := push16_ok hpush16
  have hs1 : Inv s1 := inv_push8 hpush8 (inv_of_accessed (pswRead_accessed s) hs)
  have hs2 : Inv s2 := inv_push8 hlo (inv_push8 hhi hs1)
  have hentered := inv_setFlag .ie false hs2
  have hs3 : Inv s3 := inv_of_accessed (memRead2_accessed hread) hentered
  exact hs3

theorem inv_applyInput (inp : PlatformInput) (hs : Inv s) : Inv (applyInput inp s) :=
  ⟨applyInput_wf inp hs.1, hs.2⟩

theorem inv_boundaryState (hs : Inv s) : Inv (boundaryState s) := by
  unfold boundaryState
  split
  next => exact hs
  next => exact inv_applyInput _ hs

/-- All RESET can do (70_reset_and_hazards.md R370): read the vector from what memory survives. -/
theorem resetInput_ok (h : resetInput s = .ok t) :
    ∃ target s1,
      memRead2 0x0000#16 { s with mem := s.mem.filter (keptByReset s.prod), stored := [] } =
        .ok (target, s1) ∧
      t = { s1 with
        regs := Regs.atReset, pc := target, sp := 0x0000#16, psw := 0x02#8,
        pswByteWritten := false, nmis := false, hold := false, mode := .run } := by
  obtain ⟨⟨target, s1⟩, hread, h⟩ := res_bind_ok.1 h
  cases h
  exact ⟨target, s1, hread, rfl⟩

/-- PSW 02H has the hard-wired bits (10_state.md R27). -/
theorem pswShape_atReset :
    (0x02#8).getLsbD 5 = false ∧ (0x02#8).getLsbD 3 = false ∧ (0x02#8).getLsbD 2 = false ∧
      (0x02#8).getLsbD 1 = true := by decide

theorem inv_resetInput (h : resetInput s = .ok t) (hs : Inv s) : Inv t := by
  obtain ⟨target, s1, hread, rfl⟩ := resetInput_ok h
  exact ⟨(memRead2_accessed hread).wf (Memory.wf_filter _ hs.1), fun _ => pswShape_atReset⟩

/-- Settles O57, one branch of the step at a time. -/
theorem invKept : Obligations.InvKept := by
  intro s t hs h
  obtain ⟨inp, rest, -, -, u, hu, rfl⟩ | h := step_next h
  · exact inv_applyInput inp (inv_resetInput hu hs)
  · have hb := inv_boundaryState hs
    obtain rfl | rfl | ⟨v, nmi, -, hack⟩ | ⟨-, i, -, hexec⟩ := cycle_next h
    · exact hb
    · exact hb
    · exact inv_acknowledge hack hb
    · exact exec_inv hexec hb

/-- Settles O56. -/
theorem invAtReset : Obligations.InvAtReset :=
  ⟨⟨List.Pairwise.nil, nofun⟩, fun _ => pswShape_atReset⟩

/-! ### Standby, NMIS and `hold` at the boundary -/

/-- Settles O59. -/
theorem nmisBlocks : Obligations.NmisBlocks := by
  intro s hn
  have hblock : canAcknowledge (stepInput s) (boundaryState s) = none :=
    canAcknowledge_of_blocked _ (.inr ((boundaryState_nmis s).trans hn))
  have hmode := boundaryState_mode s
  refine ⟨fun hr => ⟨fun hm => ?_, fun hm => ?_⟩, fun t h => ?_⟩
  · rw [step_of_not_reset hr, cycle_of_execute (hmode.trans hm) hblock]
  · rw [step_of_not_reset hr, cycle_of_standby _ (hmode ▸ hm)]
    cases hrel : (stepInput s).release with
    | false => rw [standbyStep_of_not_release hrel]; exact .inl rfl
    | true => rw [standbyStep_of_none hrel hblock]; exact .inr rfl
  · obtain ⟨inp, rest, hin, hr, -⟩ | h := step_next h
    · exact .inr (.inl ⟨inp, rest, hin, hr⟩)
    · have hbn := (boundaryState_nmis s).trans hn
      obtain rfl | rfl | ⟨v, nmi, hack, -⟩ | ⟨hm, i, hfetch, hexec⟩ := cycle_next h
      · exact .inl hbn
      · exact .inl hbn
      · rw [hblock] at hack; cases hack
      · by_cases hi : i = .reti
        · subst hi
          exact .inr (.inr ⟨hmode ▸ hm, hfetch, hexec⟩)
        · exact .inl ((exec_nmis hexec hi).trans hbn)

/-- Settles O60. -/
theorem holdWindow : Obligations.HoldWindow := by
  refine ⟨fun i s t => exec_hold, fun s inp rest hh hm hin hr => ?_⟩
  rw [step_of_inputs hin hr]
  exact cycle_of_execute hm (canAcknowledge_of_blocked _ (.inl hh))

/-- Settles O51. -/
theorem standbyStep : Obligations.StandbyStep := by
  intro s s0 inp rest
  refine ⟨fun hm hin => ?_, fun hin hr hs0 hm => ?_⟩
  · have hquiet : step s = cycle .quiet s := by
      rw [step_of_not_reset (by simp [hin])]
      simp [stepInput, boundaryState, hin]
    rw [hquiet, cycle_of_standby _ hm, standbyStep_of_not_release rfl]
    rfl
  · have hm0 : s0.mode ≠ .run := hs0 ▸ hm
    rw [step_of_inputs hin hr, ← hs0, cycle_of_standby _ hm0]
    exact ⟨fun hrel => by rw [standbyStep_of_not_release hrel]; rfl,
      fun hrel ha => by rw [standbyStep_of_none hrel ha]; rfl,
      fun v nmi hrel ha => by rw [standbyStep_of_acknowledge hrel ha]⟩

/-! ### Registers and pairs (10_state.md R20, R21) -/

theorem hiByte_eq_ofNat (w : Word) : hiByte w = BitVec.ofNat 8 (w.toNat / 256) := by
  apply BitVec.eq_of_toNat_eq
  rw [hiByte_toNat, BitVec.toNat_ofNat]
  omega

theorem loByte_eq_ofNat (w : Word) : loByte w = BitVec.ofNat 8 w.toNat := by
  apply BitVec.eq_of_toNat_eq
  rw [loByte_toNat, BitVec.toNat_ofNat]

theorem join_eq_ofNat (hi lo : Byte) :
    join hi lo = BitVec.ofNat 16 (256 * hi.toNat + lo.toNat) := by
  apply BitVec.eq_of_toNat_eq
  rw [join_toNat, BitVec.toNat_ofNat]
  omega

theorem pair_toNat (s : State) (p : RegPair) :
    (s.pair p).toNat =
      256 * (s.regs.get (pairHigh p)).toNat + (s.regs.get (pairLow p)).toNat :=
  join_toNat _ _

/-- A pair write as its two register writes, the halves in numbers. -/
theorem setPair_eq (s : State) (p : RegPair) (w : Word) :
    s.setPair p w = { s with
      regs := (s.regs.set (pairHigh p) (BitVec.ofNat 8 (w.toNat / 256))).set (pairLow p)
        (BitVec.ofNat 8 w.toNat) } := by
  rw [← hiByte_eq_ofNat, ← loByte_eq_ofNat]
  rfl

theorem setPair_join (s : State) (p : RegPair) (hi lo : Byte) :
    s.setPair p (join hi lo) = { s with
      regs := (s.regs.set (pairHigh p) hi).set (pairLow p) lo } := by
  simp [State.setPair, State.setReg]

/-- The odd-numbered register of a pair is its high half (10_state.md R21). -/
theorem ofCode_pairHigh (p : RegPair) : Reg.ofCode (2 * p.code + 1) = pairHigh p := by
  cases p <;> rfl

theorem ofCode_pairLow (p : RegPair) : Reg.ofCode (2 * p.code) = pairLow p := by
  cases p <;> rfl

/-- Settles O12. -/
theorem pairViews : Obligations.PairViews := by
  intro s rp w
  refine ⟨?_, s.setPair_pair_self rp w, fun r hr => ?_, rfl⟩
  · rw [ofCode_pairHigh, ofCode_pairLow]
    exact pair_toNat s rp
  · have hhi : r ≠ pairHigh rp := by rintro rfl; cases rp <;> exact hr rfl
    have hlo : r ≠ pairLow rp := by rintro rfl; cases rp <;> exact hr rfl
    rw [State.setPair_reg, if_neg hhi, if_neg hlo]

/-- Settles O16. -/
theorem pairMoves : Obligations.PairMoves := by
  intro s rp w
  simp only [← hiByte_eq_ofNat, ← loByte_eq_ofNat, ← join_eq_ofNat]
  refine ⟨fun rest => ?_, fun hrp => ?_, fun _ => rfl, fun _ => rfl, rfl, ?_, ?_, ?_, rfl, rfl⟩
  · have hword := join_hiByte_loByte w
    cases rp <;>
      exact congrArg (fun v => (Except.ok (.movwRpWord _ v, rest) : Decoded)) hword
  · cases rp with
    | ax => exact absurd rfl hrp
    | bc | de | hl => exact ⟨fun _ => rfl, fun _ => rfl, fun _ => rfl⟩
  · exact congrArg (fun u : State => Host.Outcome.next (u.done 1)) (setPair_join s .ax _ _)
  · exact congrArg (fun u : State => Host.Outcome.next (u.done 1)) (setPair_join s rp _ _)
  · have hax := setPair_join s .ax (s.reg (pairHigh rp)) (s.reg (pairLow rp))
    exact congrArg (fun u : State => Host.Outcome.next (u.done 1))
      ((congrArg (·.setPair rp (s.pair .ax)) hax).trans (setPair_join _ rp _ _))

/-! ### PSW (10_state.md R27, R41) -/

theorem forall_flagBit {P : Nat → Prop} (h : ∀ f : Flag, P f.bit) : ∀ k ∈ [7, 6, 4, 0], P k := by
  simp only [List.forall_mem_cons]
  exact ⟨h .ie, h .z, h .ac, h .cy, nofun⟩

/-- The bits that hold no flag, fixed. -/
theorem withNonFlag_nonFlagReset (v : Byte) : NonFlagFixed (withNonFlag v nonFlagReset) := by
  simp [NonFlagFixed, withNonFlag, nonFlagReset, flagMask, Flag.mask, Flag.bit, pswZBit, pswAcBit,
    pswCyBit]

/-- All a PSW read does: it gives a byte that R41 allows and may draw free values. -/
theorem pswRead_eq (s : State) :
    ∃ v n, pswRead s = (v, { s with draws := n }) ∧ PswReads s v ∧
      (s.prod.pswFixed = .hardwired → n = s.draws) := by
  have hflags := forall_flagBit (P := fun k => (pswRead s).1.getLsbD k = s.psw.getLsbD k)
    (pswRead_flag s)
  unfold pswRead at hflags ⊢
  by_cases ho : s.pswOpen = true
  · rw [if_pos ho] at hflags ⊢
    simp only [State.pswOpen, Bool.and_eq_true, beq_iff_eq] at ho
    obtain ⟨hopen, hwritten⟩ := ho
    exact ⟨_, _, rfl, ⟨hflags, fun h => by simp [hopen, hwritten] at h⟩,
      fun h => by simp [hopen] at h⟩
  · rw [if_neg ho] at hflags ⊢
    exact ⟨_, _, rfl, ⟨hflags, fun _ => withNonFlag_nonFlagReset _⟩, fun _ => rfl⟩

/-- All a PSW write does. -/
theorem pswWrite_written (v : Byte) (s : State) :
    ∃ p n, pswWrite v s = { s with psw := p, pswByteWritten := true, draws := n } ∧
      PswWritten s v p := by
  obtain ⟨p, n, e⟩ := pswWrite_eq v s
  have hflags := forall_flagBit (P := fun k => (pswWrite v s).psw.getLsbD k = v.getLsbD k)
    (pswWrite_flag v s)
  have hshape := pswWrite_shape v s
  rw [e] at hflags hshape
  exact ⟨p, n, e, hflags, hshape⟩

/-- Settles O13. -/
theorem pswReadWrite : Obligations.PswReadWrite := by
  intro s v
  obtain ⟨r, n, e, hreads, hn⟩ := pswRead_eq s
  rw [e]
  exact ⟨hreads, rfl, fun h => by rw [hn h], pswWrite_written v s⟩

/-- Settles O20. -/
theorem pswMoves : Obligations.PswMoves := by
  have written : ∀ (s : State) (v : Byte) (len : Nat), ∃ p n, PswWritten s v p ∧
      (pswWrite v s).doneHold len = { s with
        psw := p, pswByteWritten := true, draws := n, pc := s.pc + BitVec.ofNat 16 len,
        hold := true } := fun s v len => by
    obtain ⟨p, n, e, hp⟩ := pswWrite_written v s
    exact ⟨p, n, hp, by rw [e]; rfl⟩
  intro s data
  refine ⟨?_, ?_, ?_⟩
  · obtain ⟨p, n, hp, e⟩ := written s data 3
    exact ⟨p, n, hp, congrArg Host.Outcome.next e⟩
  · obtain ⟨p, n, hp, e⟩ := written s s.regs.a 2
    exact ⟨p, n, hp, congrArg Host.Outcome.next e⟩
  · obtain ⟨v, n, e, hv, -⟩ := pswRead_eq s
    exact ⟨v, n, hv, congrArg
      (fun r : Byte × State => Host.Outcome.next ((r.2.setReg .a r.1).done 2)) e⟩

/-- Settles O55. -/
theorem resetState : Obligations.ResetState :=
  ⟨rfl, rfl, rfl, rfl, rfl, rfl, rfl, rfl, fun _ => rfl⟩

/-! ### CPU control (49_cpu_control.md) -/

/-- Settles O40. -/
theorem cpuControl : Obligations.CpuControl := fun s =>
  ⟨fun _ => rfl, fun _ => rfl, fun _ => rfl, fun _ => rfl, fun _ => rfl, rfl,
    ⟨_, pswSetFlag_getLsbD s.psw .ie true, rfl⟩, ⟨_, pswSetFlag_getLsbD s.psw .ie false, rfl⟩,
    rfl, rfl⟩

/-! ### Rotates (44_incdec_rotate.md R251 to R254) -/

theorem rotateDown_getLsbD (top : Bool) (v : Byte) (k : Nat) (hk : k < 8) :
    (rotateDown top v).getLsbD k = if k = 7 then top else v.getLsbD (k + 1) := by
  rw [rotateDown, BitVec.getLsbD_append, BitVec.getLsbD_extractLsb']
  by_cases h : k < 7
  · simp [h, show k ≠ 7 by omega, Nat.add_comm]
  · simp [show k = 7 by omega]

theorem rotateUp_getLsbD (bottom : Bool) (v : Byte) (k : Nat) (hk : k < 8) :
    (rotateUp bottom v).getLsbD k = if k = 0 then bottom else v.getLsbD (k - 1) := by
  rw [rotateUp, BitVec.getLsbD_append, BitVec.getLsbD_extractLsb']
  by_cases h : k = 0
  · simp [h]
  · simp [h, show ¬k < 1 by omega, show k - 1 < 7 by omega]

/-- Settles O28. -/
theorem rotates : Obligations.Rotates := fun s =>
  have cy := pswSetFlag_getLsbD s.psw .cy
  ⟨fun _ => rfl, fun _ => rfl, fun _ => rfl, fun _ => rfl,
    ⟨_, _, rotateDown_getLsbD _ _, cy _, rfl⟩, ⟨_, _, rotateUp_getLsbD _ _, cy _, rfl⟩,
    ⟨_, _, rotateDown_getLsbD _ _, cy _, rfl⟩, ⟨_, _, rotateUp_getLsbD _ _, cy _, rfl⟩⟩

/-! ### 16-bit arithmetic (43_operation_16bit.md) -/

theorem sub16_res_toNat (a b : Word) :
    (sub16 a b).res.toNat = (a.toNat + 65536 - b.toNat) % 65536 := by
  have hint := sub16_res_toInt a b
  omega

theorem add16_z (a b : Word) : (add16 a b).z = decide ((a.toNat + b.toNat) % 65536 = 0) := by
  rw [← add16_res_toNat]
  exact decide_eq_decide.2 BitVec.toNat_inj.symm

theorem sub16_z (a b : Word) :
    (sub16 a b).z = decide ((a.toNat + 65536 - b.toNat) % 65536 = 0) := by
  rw [← sub16_res_toNat]
  exact decide_eq_decide.2 BitVec.toNat_inj.symm

theorem sub16_cy (a b : Word) : (sub16 a b).cy = decide (a.toNat < b.toNat) := by
  simp only [sub16, decide_eq_decide]
  omega

/-- Z and CY take the result's flags, AC is open, every other bit of PSW is kept (R243). -/
theorem setArith16_psw_getLsbD (s : State) (r : Arith16) :
    (s.setArith16 r).psw.getLsbD 6 = r.z ∧ (s.setArith16 r).psw.getLsbD 0 = r.cy ∧
      ∀ k, k ≠ 6 → k ≠ 4 → k ≠ 0 → (s.setArith16 r).psw.getLsbD k = s.psw.getLsbD k := by
  simp only [State.setArith16_psw, pswSetFlag_getLsbD, Flag.bit, pswZBit, pswAcBit, pswCyBit]
  refine ⟨by simp, by simp, fun k hz hac hcy => ?_⟩
  simp [hz, hac, hcy]

/-- Settles O25. -/
theorem wordArithmetic : Obligations.WordArithmetic := by
  intro s w
  have hax : 256 * s.regs.a.toNat + s.regs.x.toNat = (s.pair .ax).toNat := (pair_toNat s .ax).symm
  simp only [hax]
  rw [← add16_z, ← sub16_z, ← sub16_cy, ← add16_res_toNat, ← sub16_res_toNat]
  refine ⟨⟨_, setArith16_psw_getLsbD s (add16 (s.pair .ax) w), ?_⟩,
    ⟨_, setArith16_psw_getLsbD s (sub16 (s.pair .ax) w), ?_⟩,
    ⟨_, setArith16_psw_getLsbD s (sub16 (s.pair .ax) w), rfl⟩⟩
  all_goals
    rw [← hiByte_eq_ofNat, ← loByte_eq_ofNat]
    rfl

/-! ### Increment and decrement (44_incdec_rotate.md R245 to R250) -/

/-- The operation of `INC` and of `DEC`. -/
def incDec (up : Bool) (v : Byte) : Arith8 := if up then add8 v 1#8 false else sub8 v 1#8 false

theorem setZAc_spec (s : State) (r : Arith8) : ZAcSet s.psw (s.setZAc r).psw r.z r.ac := by
  simp only [ZAcSet, State.setZAc_psw, pswSetFlag_getLsbD, Flag.bit, pswZBit, pswAcBit]
  refine ⟨by simp, by simp, fun k hz hac => ?_⟩
  simp [hz, hac]

theorem incDec_spec (up : Bool) (v : Byte) (s : State) :
    IncDecSpec up v (incDec up v).res s.psw (s.setZAc (incDec up v)).psw := by
  have hflags := setZAc_spec s (incDec up v)
  cases up with
  | true =>
    have hac : (incDec true v).ac = decide (v.toNat % 16 = 15) := by
      simp only [incDec, add8, if_true, decide_eq_decide, BitVec.toNat_ofNat, Bool.toNat_false]
      omega
    rw [hac] at hflags
    exact ⟨add8_res_toNat v 1#8 false, hflags⟩
  | false =>
    have hac : (incDec false v).ac = decide (v.toNat % 16 = 0) := by
      refine (sub8_ac v 1#8 false).trans (decide_eq_decide.2 ?_)
      simp only [BitVec.toNat_ofNat, Bool.toNat_false]
      omega
    rw [hac] at hflags
    exact ⟨sub8_res_toNat v 1#8 false, hflags⟩

/-- Settles O26. -/
theorem incDecRegister : Obligations.IncDecRegister := by
  intro s r rp
  have hpair := pair_toNat s rp
  have hinc : (s.pair rp + 1#16).toNat = ((s.pair rp).toNat + 1) % 65536 := BitVec.toNat_add ..
  have hdec : (s.pair rp - 1#16).toNat = ((s.pair rp).toNat + 65535) % 65536 := by
    rw [BitVec.toNat_sub, Nat.add_comm]
    rfl
  refine ⟨by cases r <;> exact fun _ => rfl, by cases r <;> exact fun _ => rfl,
    by cases rp <;> exact fun _ => rfl, by cases rp <;> exact fun _ => rfl,
    ⟨_, _, incDec_spec true _ s, rfl⟩, ⟨_, _, incDec_spec false _ s, rfl⟩, ?_, ?_⟩
  · have hset := setPair_eq s rp (s.pair rp + 1#16)
    rw [hinc, hpair] at hset
    exact congrArg (fun u : State => Host.Outcome.next (u.done 1)) hset
  · have hset := setPair_eq s rp (s.pair rp - 1#16)
    rw [hdec, hpair] at hset
    exact congrArg (fun u : State => Host.Outcome.next (u.done 1)) hset

theorem exec_incDecSaddr (up : Bool) (so : Byte) (s : State) :
    exec (if up then .incSaddr so else .decSaddr so) s =
      toOutcome (eaSaddr so >>= fun ea => incDecAt (incDec up) ea 2 s) := by
  cases up <;> rfl

/-- Read, then write back where the unit may write: both complete, with one frame. -/
theorem exists_memWrite_of_memRead {unit : AccessUnit} {ea : Word} {v : Byte}
    (hread : memRead unit ea s = .ok (v, t)) (hw : Writable unit s.prod ea) (w : Byte) :
    ∃ u, memWrite unit ea w t = .ok u ∧ Accessed s u [ea] ∧
      (isCell s.prod ea → memGet u.mem ea.toNat = some w) := by
  have acc := memRead_accessed hread
  obtain ⟨u, hwrite⟩ := memWrite_of_writable w (acc.prod ▸ hw)
  exact ⟨u, hwrite, acc.trans (memWrite_accessed hwrite), fun hc =>
    memGet_memWrite_self hwrite (acc.prod ▸ hc)⟩

/-- Settles O27. -/
theorem incDecMemory : Obligations.IncDecMemory := by
  intro up so s s1 ea v hea hread hw
  obtain ⟨s2, hwrite, acc, hcell⟩ := exists_memWrite_of_memRead hread hw (incDec up v).res
  have hat : incDecAt (incDec up) ea 2 s = .ok ((s2.setZAc (incDec up v)).done 2) :=
    res_bind_ok.2 ⟨_, hread, res_bind_ok.2 ⟨_, hwrite, rfl⟩⟩
  refine ⟨_, _, s2, incDec_spec up v s, hwrite, ?_, acc, hcell⟩
  rw [exec_incDecSaddr, hea, ← acc.pc, State.setZAc_psw, ← acc.psw]
  exact toOutcome_eq_next.2 hat

/-! ### `DBNZ` (48_branch.md R315 to R318) -/

/-- The displacement of a relative branch is two's complement (20_memory.md R90). -/
theorem sext16_eq_ofNat (v : Byte) :
    sext16 v = BitVec.ofNat 16 (if v.toNat < 128 then v.toNat else v.toNat + 0xFF00) := by
  apply BitVec.eq_of_toNat_eq
  have hv := v.isLt
  rw [sext16, BitVec.toNat_signExtend, BitVec.toNat_ofNat, BitVec.msb_eq_decide,
    BitVec.toNat_setWidth]
  by_cases h : v.toNat < 128
  · simp [h, show ¬128 ≤ v.toNat by omega]
  · simp [h, show 128 ≤ v.toNat by omega]
    omega

/-- All a conditional branch does: PC and `hold`. -/
theorem branchIf_eq (s : State) (taken : Bool) (n : Nat) (jd : Byte) :
    s.branchIf taken n jd = { s with pc := branchPc taken s.pc n jd, hold := false } := by
  have htarget : s.next n + sext16 jd = relTarget s.pc n jd := by
    rw [sext16_eq_ofNat, State.next, relTarget, BitVec.ofNat_add, BitVec.ofNat_add,
      BitVec.ofNat_toNat, BitVec.setWidth_eq]
  cases taken with
  | true => exact congrArg (s.goTo · false) htarget
  | false => rfl

theorem sub_one_eq_ofNat (v : Byte) : v - 1#8 = BitVec.ofNat 8 (v.toNat + 255) := by
  bv_omega

/-- The branch is taken while the decremented counter is not 0. -/
theorem sub_one_bne_zero (v : Byte) : (v - 1#8 != 0#8) = decide (v ≠ 1#8) := by
  rw [Bool.eq_iff_iff, bne_iff_ne, decide_eq_true_iff]
  bv_omega

/-- Settles O39. -/
theorem decrementBranches : Obligations.DecrementBranches := by
  intro s jd
  simp only [← sub_one_eq_ofNat, ← sub_one_bne_zero]
  refine ⟨congrArg Host.Outcome.next (branchIf_eq _ _ 2 jd),
    congrArg Host.Outcome.next (branchIf_eq _ _ 2 jd), fun so ea v s1 hea hread hw => ?_⟩
  obtain ⟨s2, hwrite, acc, hcell⟩ := exists_memWrite_of_memRead hread hw (v - 1#8)
  refine ⟨s2, hwrite, ?_, acc, hcell⟩
  rw [← acc.pc, ← branchIf_eq]
  exact toOutcome_eq_next.2 (res_bind_ok.2 ⟨_, hea, res_bind_ok.2 ⟨_, hread,
    res_bind_ok.2 ⟨_, hwrite, rfl⟩⟩⟩)

/-! ### The stack (20_memory.md R77, R98) -/

/-- Stack RAM ends below the SFR area, so it is RAM whatever the product (R64). -/
theorem region_of_inStackRam {p : Product} {a : Word} (h : inStackRam p a = true) :
    region p a = .ram := by
  have hsfr : ¬0xFF00#16 ≤ a := by
    simp only [inStackRam, Bool.and_eq_true, decide_eq_true_iff] at h
    bv_omega
  simp only [region, hsfr, h, if_true, if_false]

theorem push8_of_inStackRam {v : Byte} (h : inStackRam s.prod (s.sp - 1#16) = true) :
    push8 v s = .ok ((s.setSp (s.sp - 1#16)).storeByte (s.sp - 1#16) v) := by
  simp only [push8, h, if_true, memWrite, region_of_inStackRam h]
  rfl

theorem push8_of_not_inStackRam {v : Byte} (h : inStackRam s.prod (s.sp - 1#16) = false) :
    push8 v s = refuse (.stackOutsideRam (s.sp - 1#16)) := by
  simp [push8, h]

/-- Bytes pushed one after the other, the first first. -/
def pushBytes : List Byte → State → Res State
  | [], s => .ok s
  | v :: l, s => push8 v s >>= pushBytes l

theorem push8_eq_pushBytes (v : Byte) (s : State) : push8 v s = pushBytes [v] s := by
  show _ = push8 v s >>= Except.ok
  cases push8 v s <;> rfl

theorem push16_eq_pushBytes (w : Word) (s : State) :
    push16 w s = pushBytes [hiByte w, loByte w] s :=
  congrArg (push8 (hiByte w) s >>= ·) (funext fun t => push8_eq_pushBytes (loByte w) t)

/-- The addresses that pushed bytes go to. -/
def slots : Word → List Byte → List (Word × Byte)
  | _, [] => []
  | sp, v :: l => (sp - 1#16, v) :: slots (sp - 1#16) l

theorem sub_one_sub (sp : Word) (k : Nat) :
    sp - 1#16 - BitVec.ofNat 16 k = sp - BitVec.ofNat 16 (k + 1) := by
  rw [BitVec.ofNat_add]
  bv_omega

theorem exists_of_mem_slots {l : List Byte} {c : Word × Byte} :
    ∀ {sp : Word}, c ∈ slots sp l → ∃ k < l.length, c.1 = sp - BitVec.ofNat 16 (k + 1) := by
  induction l with
  | nil => exact nofun
  | cons v l ih =>
    intro sp hc
    obtain rfl | hc := List.mem_cons.1 hc
    · exact ⟨0, Nat.succ_pos _, rfl⟩
    · obtain ⟨k, hk, e⟩ := ih hc
      exact ⟨k + 1, Nat.succ_lt_succ hk, e.trans (sub_one_sub sp (k + 1))⟩

/-- Fewer than 65536 pushes do not come round to where SP started. -/
theorem ne_of_mem_slots {l : List Byte} {sp : Word} {c : Word × Byte} (hl : l.length < 65536)
    (hc : c ∈ slots sp l) : c.1 ≠ sp := by
  obtain ⟨k, hk, e⟩ := exists_of_mem_slots hc
  rw [e]
  have hk' : (BitVec.ofNat 16 (k + 1)).toNat = k + 1 := by
    rw [BitVec.toNat_ofNat, Nat.mod_eq_of_lt (by omega)]
  bv_omega

theorem noted_cons {st : List Nat} {a : Word} {l : List Word} (hprod : t.prod = s.prod)
    (h : Noted s t.stored [a]) (g : Noted t st l) : Noted s st (a :: l) := by
  unfold Noted at h g ⊢
  rw [hprod] at g
  cases hf : s.prod.fetchFromRam with
  | true =>
    simp only [hf, if_true] at h g ⊢
    intro n
    rw [g n, h n]
    simp [or_assoc]
  | false =>
    simp only [hf] at h g ⊢
    exact g.trans h

theorem pushRoom_tail {n : Nat} (h : PushRoom s (n + 1)) (v : Byte) :
    PushRoom ((s.setSp (s.sp - 1#16)).storeByte (s.sp - 1#16) v) n := fun k hk => by
  have := h (k + 1) (Nat.succ_lt_succ hk)
  rwa [← sub_one_sub] at this

/-- With room for them, pushed bytes are written below SP and nothing else changes. -/
theorem pushBytes_of_room {l : List Byte} : ∀ {s : State}, PushRoom s l.length →
    l.length < 65536 →
    ∃ m st, pushBytes l s =
        .ok { s with sp := s.sp - BitVec.ofNat 16 l.length, mem := m, stored := st } ∧
      Wrote s m (slots s.sp l) ∧ Noted s st ((slots s.sp l).map Prod.fst) := by
  induction l with
  | nil =>
    intro s _ _
    refine ⟨s.mem, s.stored, ?_, ⟨nofun, fun _ _ => rfl⟩, ?_⟩
    · simp [pushBytes]
    · simp [Noted, slots]
  | cons v l ih =>
    intro s hroom hl
    have hl' : l.length < 65536 := Nat.lt_of_succ_lt hl
    obtain ⟨m, st, e, ⟨hwrote, hkept⟩, hnoted⟩ := ih (pushRoom_tail hroom v) hl'
    refine ⟨m, st, ?_, ⟨fun c hc => ?_, fun b hb => ?_⟩,
      noted_cons (t := (s.setSp (s.sp - 1#16)).storeByte (s.sp - 1#16) v) rfl
        (noted_storeByte (s.setSp (s.sp - 1#16)) _ v) hnoted⟩
    · rw [pushBytes, push8_of_inStackRam (hroom 0 (Nat.succ_pos _))]
      refine e.trans ?_
      simp only [State.storeByte_sp, State.setSp_sp, sub_one_sub]
      rfl
    · obtain rfl | hc := List.mem_cons.1 hc
      · exact (hkept _ fun c hc => ne_of_mem_slots hl' hc).trans (memGet_memPut_self ..)
      · exact hwrote c hc
    · obtain ⟨hne, hb⟩ := List.forall_mem_cons.1 hb
      exact (hkept b hb).trans (memGet_memPut_ne _ _ fun e => hne (BitVec.eq_of_toNat_eq e.symm))

/-- Pushed bytes are refused as a whole at the first address outside stack RAM. -/
theorem pushBytes_refused {l : List Byte} : ∀ {s : State} {k : Nat}, PushRoom s k →
    inStackRam s.prod (s.sp - BitVec.ofNat 16 (k + 1)) = false → k < l.length →
    pushBytes l s = refuse (.stackOutsideRam (s.sp - BitVec.ofNat 16 (k + 1))) := by
  induction l with
  | nil => intro s k _ _ hk; exact absurd hk (Nat.not_lt_zero k)
  | cons v l ih =>
    intro s k hroom hout hk
    cases k with
    | zero => rw [pushBytes, push8_of_not_inStackRam hout]; rfl
    | succ k =>
      rw [pushBytes, push8_of_inStackRam (hroom 0 (Nat.succ_pos _))]
      rw [← sub_one_sub s.sp (k + 1)] at hout ⊢
      exact ih (pushRoom_tail hroom v) hout (Nat.lt_of_succ_lt_succ hk)

theorem push16_refused {k : Nat} (w : Word) (hroom : PushRoom s k)
    (hout : inStackRam s.prod (s.sp - BitVec.ofNat 16 (k + 1)) = false) (hk : k < 2) :
    push16 w s = refuse (.stackOutsideRam (s.sp - BitVec.ofNat 16 (k + 1))) :=
  (push16_eq_pushBytes w s).trans (pushBytes_refused hroom hout hk)

/-- A listed byte of RAM, where the stack lies, or of ROM, where the vectors lie, is read. -/
theorem memRead_of_listed {unit : AccessUnit} {a : Word} {v : Byte}
    (hr : region s.prod a = .rom ∨ region s.prod a = .ram)
    (hv : memGet s.mem a.toNat = some v) : memRead unit a s = .ok (v, s) := by
  rcases hr with hr | hr <;> simp [memRead, hr, readCell, held_listed hv, Except.map]

theorem onStack_head {v : Byte} {l : List Byte} (h : OnStack s (v :: l)) :
    inStackRam s.prod s.sp = true ∧ memGet s.mem s.sp.toNat = some v := by
  have := h 0 (Nat.succ_pos _)
  simpa using this

theorem onStack_tail {v : Byte} {l : List Byte} (h : OnStack s (v :: l)) :
    OnStack (s.setSp (s.sp + 1#16)) l := fun k hk => by
  have hnext : s.sp + 1#16 + BitVec.ofNat 16 k = s.sp + BitVec.ofNat 16 (k + 1) := by
    rw [BitVec.ofNat_add]
    bv_omega
  have := h (k + 1) (Nat.succ_lt_succ hk)
  rw [← hnext] at this
  exact this

theorem pop8_of_onStack {v : Byte} {l : List Byte} (h : OnStack s (v :: l)) :
    pop8 s = .ok (v, s.setSp (s.sp + 1#16)) := by
  obtain ⟨hin, hv⟩ := onStack_head h
  simp only [pop8, hin, if_true, memRead_of_listed (.inr (region_of_inStackRam hin)) hv]
  rfl

theorem pop16_of_onStack {lo hi : Byte} {l : List Byte} (h : OnStack s (lo :: hi :: l)) :
    pop16 s = .ok (join hi lo, s.setSp (s.sp + 2#16)) := by
  have hsp : s.sp + 1#16 + 1#16 = s.sp + 2#16 := by bv_omega
  rw [← hsp]
  exact res_bind_ok.2 ⟨_, pop8_of_onStack h, res_bind_ok.2
    ⟨_, pop8_of_onStack (onStack_tail h), rfl⟩⟩

theorem onStack_drop_two {lo hi : Byte} {l : List Byte} (h : OnStack s (lo :: hi :: l)) :
    OnStack (s.setSp (s.sp + 2#16)) l := by
  have hsp : s.sp + 1#16 + 1#16 = s.sp + 2#16 := by bv_omega
  have := onStack_tail (onStack_tail h)
  rwa [State.setSp_sp, hsp] at this

/-- `RETI` where its frame is held (46_call_return.md R283). -/
theorem exec_reti_of_onStack {lo hi p : Byte} (h : OnStack s [lo, hi, p]) :
    ∃ q n, PswWritten s p q ∧
      exec .reti s = .next { s with
        sp := s.sp + 3#16, pc := join hi lo, psw := q, pswByteWritten := true, draws := n,
        nmis := false, hold := true } := by
  have hpop := pop8_of_onStack (onStack_drop_two h)
  rw [State.setSp_sp, show s.sp + 2#16 + 1#16 = s.sp + 3#16 by bv_omega] at hpop
  obtain ⟨q, n, e, hq⟩ := pswWrite_written p (s.setSp (s.sp + 3#16))
  refine ⟨q, n, hq, toOutcome_eq_next.2 (res_bind_ok.2 ⟨_, pop16_of_onStack h,
    res_bind_ok.2 ⟨_, hpop, ?_⟩⟩)⟩
  exact congrArg (fun u : State => Except.ok (({ u with nmis := false }).goTo (join hi lo) true)) e

/-- Settles O33. -/
theorem returns : Obligations.Returns := by
  intro s lo hi p
  rw [← join_eq_ofNat]
  exact ⟨fun h => toOutcome_eq_next.2 (res_bind_ok.2 ⟨_, pop16_of_onStack h, rfl⟩),
    exec_reti_of_onStack⟩

theorem slots_two (sp : Word) (u v : Byte) :
    slots sp [u, v] = [(sp - 1#16, u), (sp - 2#16, v)] := by
  rw [slots, slots, slots, show sp - 1#16 - 1#16 = sp - 2#16 by bv_omega]

theorem slots_three (sp : Word) (u v w : Byte) :
    slots sp [u, v, w] = [(sp - 1#16, u), (sp - 2#16, v), (sp - 3#16, w)] := by
  rw [slots, slots_two, show sp - 1#16 - 1#16 = sp - 2#16 by bv_omega,
    show sp - 1#16 - 2#16 = sp - 3#16 by bv_omega]

/-- Settles O34. -/
theorem pushPop : Obligations.PushPop := by
  intro s rp lo hi
  refine ⟨fun hroom => ?_, fun hroom => ?_, fun h => ?_, fun h => ?_⟩
  · obtain ⟨v, n, e, hreads, -⟩ := pswRead_eq s
    obtain ⟨m, st, hpush, hwrote, hnoted⟩ := pushBytes_of_room (l := [v])
      (s := { s with draws := n }) hroom (by simp)
    rw [← push8_eq_pushBytes] at hpush
    refine ⟨v, m, st, n, hreads, hwrote, hnoted, toOutcome_eq_next.2 ?_⟩
    show (push8 (pswRead s).1 (pswRead s).2 >>= fun t => Except.ok (t.done 1)) = _
    rw [e]
    exact res_bind_ok.2 ⟨_, hpush, rfl⟩
  · obtain ⟨m, st, hpush, hwrote, hnoted⟩ := pushBytes_of_room
      (l := [hiByte (s.pair rp), loByte (s.pair rp)]) hroom (by simp)
    rw [← push16_eq_pushBytes] at hpush
    rw [slots_two, State.pair, hiByte_join, loByte_join] at hwrote
    rw [slots_two] at hnoted
    exact ⟨m, st, hwrote, hnoted, toOutcome_eq_next.2 (res_bind_ok.2 ⟨_, hpush, rfl⟩)⟩
  · obtain ⟨q, n, e, hq⟩ := pswWrite_written lo (s.setSp (s.sp + 1#16))
    refine ⟨q, n, hq, toOutcome_eq_next.2 (res_bind_ok.2 ⟨_, pop8_of_onStack h, ?_⟩)⟩
    exact congrArg (fun u : State => Except.ok (u.doneHold 1)) e
  · refine toOutcome_eq_next.2 (res_bind_ok.2 ⟨_, pop16_of_onStack h, ?_⟩)
    exact congrArg (fun u : State => Except.ok (u.done 1))
      (setPair_join (s.setSp (s.sp + 2#16)) rp hi lo)

/-! ### Where the stack stops (20_memory.md R98, 10_state.md R39) -/

theorem res_bind_error {α β : Type} {x : Res α} {f : α → Res β} {e : Stop} (h : x = .error e) :
    (x >>= f) = .error e := by
  rw [h]; rfl

/-- The acknowledge sequence once PSW and PC are pushed (60_exceptions.md R350). -/
def enterHandler (v : Word) (nmi keep : Bool) (s : State) : Res State := do
  let (target, t) ← memRead2 v { s.setFlag .ie false with nmis := s.nmis || nmi }
  return { t with pc := target, mode := .run, intc := acknowledged v keep t.intc }

/-- The acknowledge sequence pushes three bytes, then enters the handler. -/
theorem acknowledge_eq (v : Word) (nmi keep : Bool) (s : State) :
    acknowledge v nmi keep s =
      pushBytes [(pswRead s).1, hiByte s.pc, loByte s.pc] (pswRead s).2 >>=
        enterHandler v nmi keep := by
  have hpc : (pswRead s).2.pc = s.pc := (pswRead_accessed s).pc
  show (push8 (pswRead s).1 (pswRead s).2 >>= fun s1 =>
    push16 s1.pc s1 >>= enterHandler v nmi keep) = _
  rw [pushBytes]
  cases hpush : push8 (pswRead s).1 (pswRead s).2 with
  | error e => rfl
  | ok s1 =>
    have hpc1 : s1.pc = s.pc := (push8_accessed hpush).pc.trans hpc
    show push16 s1.pc s1 >>= _ = pushBytes [hiByte s.pc, loByte s.pc] s1 >>= _
    rw [hpc1, push16_eq_pushBytes]

theorem calltEntry_eq_ofNat (k : BitVec 5) :
    calltEntry k = BitVec.ofNat 16 (0x40 + 2 * k.toNat) := by
  revert k
  decide

theorem pushRoom_of_accessed {l : List Word} {n : Nat} (acc : Accessed s t l)
    (h : PushRoom s n) : PushRoom t n := fun k hk => by
  rw [acc.prod, acc.sp]
  exact h k hk

/-- A pop stops where the bytes held on the stack end. -/
theorem pop16_stop {l : List Byte} {e : Stop} (h : OnStack s l) (hl : l.length < 2)
    (hstop : pop8 (s.setSp (s.sp + BitVec.ofNat 16 l.length)) = .error e) :
    pop16 s = .error e := by
  match l, h, hl with
  | [], _, _ =>
    have hs : s.setSp (s.sp + BitVec.ofNat 16 0) = s := by simp [State.setSp]
    exact res_bind_error (hs ▸ hstop)
  | [lo], h, _ =>
    rw [pop16, pop8_of_onStack h]
    show (pop8 (s.setSp (s.sp + 1#16)) >>= _) = _
    exact res_bind_error hstop

theorem interruptReturn_stop {l : List Byte} {e : Stop} (h : OnStack s l) (hl : l.length < 3)
    (hstop : pop8 (s.setSp (s.sp + BitVec.ofNat 16 l.length)) = .error e) :
    interruptReturn s = .error e := by
  match l, h, hl with
  | [], h, _ => exact res_bind_error (pop16_stop h (by decide) hstop)
  | [lo], h, _ => exact res_bind_error (pop16_stop h (by simp) hstop)
  | [lo, hi], h, _ =>
    rw [interruptReturn, pop16_of_onStack h]
    show (pop8 (s.setSp (s.sp + 2#16)) >>= _) = _
    exact res_bind_error hstop

/-- Every form that pops stops where the bytes held on the stack end. -/
theorem pops_stop {l : List Byte} {e : Stop} (rp : RegPair) (h : OnStack s l)
    (hstop : pop8 (s.setSp (s.sp + BitVec.ofNat 16 l.length)) = .error e) :
    (l.length < 1 → exec .popPsw s = toOutcome (.error e)) ∧
      (l.length < 2 → exec (.popRp rp) s = toOutcome (.error e) ∧
        exec .ret s = toOutcome (.error e)) ∧
      (l.length < 3 → exec .reti s = toOutcome (.error e)) := by
  refine ⟨fun hl => ?_, fun hl => ?_, fun hl => ?_⟩
  · obtain rfl : l = [] := List.length_eq_zero_iff.1 (Nat.lt_one_iff.1 hl)
    have hs : s.setSp (s.sp + BitVec.ofNat 16 0) = s := by simp [State.setSp]
    exact congrArg toOutcome (res_bind_error (hs ▸ hstop))
  · have hpop := pop16_stop h hl hstop
    exact ⟨congrArg toOutcome (res_bind_error hpop), congrArg toOutcome (res_bind_error hpop)⟩
  · exact congrArg toOutcome (interruptReturn_stop h hl hstop)

/-- Settles O35. -/
theorem stackRefusals : Obligations.StackRefusals := by
  intro s rp addr v k nmi keep
  refine ⟨fun n hroom hout => ⟨fun hn => ?_, fun hn => ⟨?_, ?_, fun target s1 hread => ?_⟩,
    fun hn => ?_⟩, fun l h => ⟨fun hout => ?_, fun hin hnone => ?_⟩⟩
  · have acc := pswRead_accessed s
    have hpush := pushBytes_refused (l := [(pswRead s).1]) (pushRoom_of_accessed acc hroom)
      (by rwa [acc.prod, acc.sp]) hn
    rw [← push8_eq_pushBytes, acc.sp] at hpush
    exact congrArg toOutcome (res_bind_error hpush)
  · exact congrArg toOutcome (res_bind_error (push16_refused (s.pair rp) hroom hout hn))
  · exact congrArg toOutcome (res_bind_error (push16_refused (s.next 3) hroom hout hn))
  · rw [← calltEntry_eq_ofNat] at hread
    have acc := memRead2_accessed hread
    have hpush := push16_refused (s1.next 1) (pushRoom_of_accessed acc hroom)
      (by rwa [acc.prod, acc.sp]) hn
    rw [acc.sp] at hpush
    show toOutcome (memRead2 (calltEntry k) s >>= _) = _
    rw [hread]
    exact congrArg toOutcome (res_bind_error hpush)
  · have acc := pswRead_accessed s
    have hpush := pushBytes_refused (l := [(pswRead s).1, hiByte s.pc, loByte s.pc])
      (pushRoom_of_accessed acc hroom) (by rwa [acc.prod, acc.sp]) hn
    rw [acc.sp] at hpush
    rw [acknowledge_eq]
    exact res_bind_error hpush
  · exact pops_stop rp h (by simp [pop8, hout, refuse])
  · have hheld : (s.setSp (s.sp + BitVec.ofNat 16 l.length)).held
        (s.sp + BitVec.ofNat 16 l.length) = none :=
      (held_of_rom_or_ram (s := s.setSp _) (.inr (region_of_inStackRam hin))).trans hnone
    exact pops_stop rp h (by
      simp [pop8, hin, memRead, region_of_inStackRam hin, readCell, hheld, Except.map])

/-! ### Taking an interrupt (60_exceptions.md R344 to R353) -/

theorem vectorListed_iff {p : Product} {v : Word} :
    vectorListed p v = true ↔ v ≠ 0#16 ∧ v.toNat % 2 = 0 ∧ ∃ row ∈ p.vectors, row.addr = v := by
  have heven : v.getLsbD 0 = false ↔ v.toNat % 2 = 0 := by
    rw [BitVec.getLsbD, Nat.testBit_zero, decide_eq_false_iff_not]
    omega
  simp [vectorListed, ← heven, and_assoc]

theorem offerable_iff {p : Product} {ie : Bool} {src : IntSource} :
    offerable p ie src = true ↔
      src.pending = true ∧ (src.nonMaskable = true ∨ (ie = true ∧ src.masked = false)) ∧
        vectorListed p src.vector = true := by
  simp [offerable, and_assoc]

/-- The lowest vector is one of the list, and there is one unless the list is empty. -/
theorem lowestVector_spec (l : List IntSource) :
    match lowestVector l with
    | none => l = []
    | some best => best ∈ l ∧ ∀ src ∈ l, best.vector.toNat ≤ src.vector.toNat := by
  induction l with
  | nil => simp [lowestVector]
  | cons src l ih =>
    cases hl : lowestVector l with
    | none =>
      simp only [hl] at ih
      simp [lowestVector, ih]
    | some best =>
      simp only [hl] at ih
      obtain ⟨hmem, hle⟩ := ih
      by_cases hlt : best.vector < src.vector
      · simp only [lowestVector, hl, hlt, if_true]
        exact ⟨List.mem_cons_of_mem _ hmem, List.forall_mem_cons.2 ⟨Nat.le_of_lt hlt, hle⟩⟩
      · simp only [lowestVector, hl, hlt, if_false]
        exact ⟨List.mem_cons_self, List.forall_mem_cons.2 ⟨le_rfl, fun q hq =>
          (Nat.le_of_not_lt hlt).trans (hle q hq)⟩⟩

theorem mem_of_lowestVector {l : List IntSource} {best : IntSource}
    (h : lowestVector l = some best) : best ∈ l := by
  have := lowestVector_spec l
  simp only [h] at this
  exact this.1

theorem exists_lowestVector {l : List IntSource} {src : IntSource} (hsrc : src ∈ l) :
    ∃ best, lowestVector l = some best ∧ best.vector.toNat ≤ src.vector.toNat := by
  have hspec := lowestVector_spec l
  cases h : lowestVector l with
  | none =>
    simp only [h] at hspec
    simp [hspec] at hsrc
  | some best =>
    simp only [h] at hspec
    exact ⟨best, rfl, hspec.2 src hsrc⟩

/-- The requests that can be offered (60_exceptions.md R344). -/
def candidates (s : State) : List IntSource := s.intc.filter (offerable s.prod (s.flag .ie))

theorem mem_candidates {src : IntSource} :
    src ∈ candidates s ↔ src ∈ s.intc ∧ src.pending = true ∧
      (src.nonMaskable = true ∨ (s.psw.getLsbD 7 = true ∧ src.masked = false)) ∧
      src.vector ≠ 0#16 ∧ src.vector.toNat % 2 = 0 ∧
      ∃ row ∈ s.prod.vectors, row.addr = src.vector := by
  rw [candidates, List.mem_filter, offerable_iff, vectorListed_iff]
  rfl

/-- The request that a rule picks from the candidates (60_exceptions.md R348). -/
def picked : OfferRule → List IntSource → Option IntSource
  | .withheld, _ => none
  | .chosen v, l => l.find? fun src => src.vector == v
  | .byDefault, l =>
    match lowestVector (l.filter (·.nonMaskable)) with
    | some src => some src
    | none => lowestVector l

theorem offered_eq (rule : OfferRule) (s : State) :
    offered rule (s.flag .ie) s =
      (picked rule (candidates s)).map fun src => (src.vector, src.nonMaskable) := by
  cases rule <;> rfl

theorem mem_of_picked {rule : OfferRule} {l : List IntSource} {src : IntSource}
    (h : picked rule l = some src) : src ∈ l := by
  cases rule with
  | withheld => cases h
  | chosen v => exact List.mem_of_find?_eq_some h
  | byDefault =>
    simp only [picked] at h
    split at h
    next best hbest =>
      cases h
      exact List.mem_of_mem_filter (mem_of_lowestVector hbest)
    next => exact mem_of_lowestVector h

theorem picked_chosen {l : List IntSource} {src : IntSource} (hsrc : src ∈ l) :
    ∃ q ∈ l, picked (.chosen src.vector) l = some q ∧ q.vector = src.vector := by
  cases hfind : picked (.chosen src.vector) l with
  | none => simpa using List.find?_eq_none.1 hfind src hsrc
  | some q => exact ⟨q, mem_of_picked hfind, rfl, by simpa using List.find?_some hfind⟩

/-- The default order: a non-maskable request if there is one, the lowest vector of its class. -/
theorem picked_byDefault {l : List IntSource} {src : IntSource} (hsrc : src ∈ l) :
    ∃ q, picked .byDefault l = some q ∧ (src.nonMaskable = true → q.nonMaskable = true) ∧
      (src.nonMaskable = q.nonMaskable → q.vector.toNat ≤ src.vector.toNat) := by
  cases hn : lowestVector (l.filter (·.nonMaskable)) with
  | some best =>
    have hbest : best.nonMaskable = true := (List.mem_filter.1 (mem_of_lowestVector hn)).2
    refine ⟨best, by simp [picked, hn], fun _ => hbest, fun he => ?_⟩
    obtain ⟨b, hb, hle⟩ := exists_lowestVector (List.mem_filter.2 ⟨hsrc, he.trans hbest⟩)
    rw [hn] at hb
    cases hb
    exact hle
  | none =>
    obtain ⟨best, hbest, hle⟩ := exists_lowestVector hsrc
    refine ⟨best, by simp [picked, hn, hbest], fun he => ?_, fun _ => hle⟩
    obtain ⟨b, hb, -⟩ := exists_lowestVector (List.mem_filter.2 ⟨hsrc, he⟩)
    rw [hn] at hb
    cases hb

theorem canAcknowledge_of_free {inp : PlatformInput} (hh : s.hold = false) (hn : s.nmis = false) :
    canAcknowledge inp s =
      (picked inp.offer (candidates s)).map fun src => (src.vector, src.nonMaskable) := by
  simp [canAcknowledge, hh, hn, offered_eq]

/-- Settles O46. -/
theorem acknowledgeCondition : Obligations.AcknowledgeCondition := by
  refine ⟨fun inp s v nmi h => ?_, ?_⟩
  · have hfree : ¬(s.hold = true ∨ s.nmis = true) := fun hb => by
      rw [canAcknowledge_of_blocked inp hb] at h
      cases h
    obtain ⟨hh, hn⟩ : s.hold = false ∧ s.nmis = false := by simpa using hfree
    rw [canAcknowledge_of_free hh hn, Option.map_eq_some_iff] at h
    obtain ⟨src, hpick, he⟩ := h
    cases he
    obtain ⟨hmem, hpending, henabled, hnz, heven, hrow⟩ := mem_candidates.1 (mem_of_picked hpick)
    refine ⟨hh, hn, hnz, heven, hrow, fun hie => ?_, src, hmem, rfl, rfl, hpending, fun hm => ?_⟩
    · exact henabled.resolve_right fun ⟨hset, _⟩ => by rw [hie] at hset; cases hset
    · simpa [hm, and_comm] using (henabled.resolve_left (by simp [hm])).2
  · intro inp s src hh hn hmem hpending hnz heven hrow henabled
    have hsrc : src ∈ candidates s :=
      mem_candidates.2 ⟨hmem, hpending, henabled, hnz, heven, hrow⟩
    rw [canAcknowledge_of_free hh hn]
    refine ⟨fun hrule => ?_, fun hrule => ?_⟩
    · obtain ⟨q, hq, hpick, hv⟩ := picked_chosen hsrc
      refine ⟨q.nonMaskable, by rw [hrule, hpick, ← hv]; rfl, fun hunique => ?_⟩
      exact hunique q (mem_candidates.1 hq).1 hv
    · obtain ⟨q, hpick, hnm, hle⟩ := picked_byDefault hsrc
      exact ⟨q.vector, q.nonMaskable, by rw [hrule, hpick]; rfl, hnm, hle⟩

theorem memRead2_of_rom {a : Word} {lo hi : Byte} (hr : region s.prod a = .rom)
    (hr1 : region s.prod (a + 1#16) = .rom) (hlo : memGet s.mem a.toNat = some lo)
    (hhi : memGet s.mem (a + 1#16).toNat = some hi) : memRead2 a s = .ok (join hi lo, s) :=
  res_bind_ok.2 ⟨_, memRead_of_listed (.inl hr) hlo, res_bind_ok.2
    ⟨_, memRead_of_listed (.inl hr1) hhi, rfl⟩⟩

/-- A push leaves the bytes of ROM: the stack lies in RAM. -/
theorem memGet_of_wrote_slots {m : List Host.Cell} {l : List Byte} {a : Word}
    (hroom : PushRoom s l.length) (hw : Wrote s m (slots s.sp l)) (hr : region s.prod a = .rom) :
    memGet m a.toNat = memGet s.mem a.toNat := by
  refine hw.2 a fun c hc he => ?_
  obtain ⟨k, hk, hslot⟩ := exists_of_mem_slots hc
  have hram := region_of_inStackRam (hroom k hk)
  rw [← hslot, he, hr] at hram
  cases hram

/-- Settles O47: three pushes, then the vector, which the pushes leave alone. -/
theorem acknowledgeSequence : Obligations.AcknowledgeSequence := by
  intro s v nmi keep lo hi hroom hr hr1 hlo hhi
  rw [← join_eq_ofNat, ← hiByte_eq_ofNat, ← loByte_eq_ofNat]
  obtain ⟨p, n, e, hreads, -⟩ := pswRead_eq s
  obtain ⟨m, st, hpush, hwrote, hnoted⟩ :=
    pushBytes_of_room (s := { s with draws := n }) (l := [p, hiByte s.pc, loByte s.pc]) hroom
      (by simp)
  have hvector := memRead2_of_rom (lo := lo) (hi := hi)
    (s := { s with
      sp := s.sp - 3#16, mem := m, stored := st, draws := n, psw := pswSetFlag s.psw .ie false,
      nmis := s.nmis || nmi })
    hr hr1 ((memGet_of_wrote_slots hroom hwrote hr).trans hlo)
    ((memGet_of_wrote_slots hroom hwrote hr1).trans hhi)
  rw [slots_three] at hwrote hnoted
  refine ⟨p, _, m, st, n, hreads, pswSetFlag_getLsbD s.psw .ie false, hwrote, hnoted, ?_⟩
  rw [acknowledge_eq, e]
  exact res_bind_ok.2 ⟨_, hpush, res_bind_ok.2 ⟨_, hvector, rfl⟩⟩

/-- A push puts its byte on top of what the stack holds. -/
theorem onStack_of_push8 {v : Byte} {l : List Byte} (h : push8 v s = .ok t) (hs : OnStack s l)
    (hl : l.length < 65535) : OnStack t (v :: l) := by
  have hroom := (push8_ok h).1
  rw [push8_of_inStackRam hroom] at h
  cases h
  intro k hk
  cases k with
  | zero =>
    simp only [State.storeByte_prod, State.setSp_prod, State.storeByte_sp, State.setSp_sp,
      State.storeByte_mem, BitVec.add_zero]
    exact ⟨hroom, memGet_memPut_self ..⟩
  | succ k =>
    have hk' : k < l.length := Nat.lt_of_succ_lt_succ hk
    obtain ⟨hin, hv⟩ := hs k hk'
    have haddr : s.sp - 1#16 + BitVec.ofNat 16 (k + 1) = s.sp + BitVec.ofNat 16 k := by
      rw [BitVec.ofNat_add]
      bv_omega
    have hne : (s.sp + BitVec.ofNat 16 k).toNat ≠ (s.sp - 1#16).toNat := by
      have hnat : (BitVec.ofNat 16 k).toNat = k := by
        rw [BitVec.toNat_ofNat, Nat.mod_eq_of_lt (by omega)]
      bv_omega
    simp only [State.storeByte_prod, State.setSp_prod, State.storeByte_sp, State.setSp_sp,
      State.storeByte_mem, haddr]
    exact ⟨hin, (memGet_memPut_ne _ _ hne).trans hv⟩

/-- An access that writes no byte leaves the stack. -/
theorem onStack_of_accessed {l : List Byte} (acc : Accessed s t []) (h : OnStack s l) :
    OnStack t l := fun k hk => by
  rw [acc.prod, acc.sp, acc.mem _ List.not_mem_nil]
  exact h k hk

/-- Settles O48: the acknowledge leaves the frame that `RETI` takes. -/
theorem acknowledgeThenReti : Obligations.AcknowledgeThenReti := by
  intro s t v nmi keep h
  obtain ⟨s1, s2, target, s3, hpsw, hpush16, hread, rfl⟩ := acknowledge_ok h
  obtain ⟨s4, hhi, hlo⟩ := push16_ok hpush16
  have acc := pswRead_accessed s
  have acc1 := push8_accessed hpsw
  have acc4 := push8_accessed hhi
  have acc2 := push8_accessed hlo
  have acc3 := memRead2_accessed hread
  have hframe1 : OnStack s1 [(pswRead s).1] := onStack_of_push8 hpsw nofun (by simp)
  have hframe2 : OnStack s2 [loByte s1.pc, hiByte s1.pc, (pswRead s).1] :=
    onStack_of_push8 hlo (onStack_of_push8 hhi hframe1 (by simp)) (by simp)
  have hframe3 : OnStack s3 [loByte s1.pc, hiByte s1.pc, (pswRead s).1] :=
    onStack_of_accessed acc3 hframe2
  obtain ⟨q, n, ⟨hflags, -⟩, hreti⟩ := exec_reti_of_onStack
    (s := { s3 with pc := target, mode := .run, intc := acknowledged v keep s3.intc }) hframe3
  refine ⟨_, hreti, ?_, ?_, ?_, fun k hk => ?_, rfl, rfl⟩
  · show join (hiByte s1.pc) (loByte s1.pc) = s.pc
    rw [join_hiByte_loByte]
    exact acc1.pc.trans acc.pc
  · have hsp3 : s3.sp = s2.sp := acc3.sp
    have hsp2 : s2.sp = s4.sp - 1#16 := acc2.sp
    have hsp4 : s4.sp = s1.sp - 1#16 := acc4.sp
    have hsp1 : s1.sp = (pswRead s).2.sp - 1#16 := acc1.sp
    show s3.sp + 3#16 = s.sp
    rw [hsp3, hsp2, hsp4, hsp1, acc.sp]
    bv_omega
  · exact acc3.regs.trans (acc2.regs.trans (acc4.regs.trans (acc1.regs.trans acc.regs)))
  · obtain ⟨p, m, e, ⟨hreads, -⟩, -⟩ := pswRead_eq s
    rw [e] at hflags
    exact (hflags k hk).trans (hreads k hk)

/-! ### The RESET input (70_reset_and_hazards.md R370) -/

theorem memGet_filter_keptByReset (p : Product) (m : List Host.Cell) (a : Word) :
    memGet (m.filter (keptByReset p)) a.toNat =
      if region p a = .rom ∨ region p a = .eeprom then memGet m a.toNat else none := by
  have hkept : keptByReset p (a.toNat, 0#8) =
      decide (region p a = .rom ∨ region p a = .eeprom) := by
    simp only [keptByReset, BitVec.ofNat_toNat, BitVec.setWidth_eq]
    cases region p a <;> rfl
  have hfilter := memGet_filter (fun k => keptByReset p (k, 0#8)) m a.toNat
  simp only [hkept, decide_eq_true_iff] at hfilter
  exact hfilter

/-- Settles O54. -/
theorem resetStep : Obligations.ResetStep := by
  intro s inp rest lo hi hin hreset hsfr hr hr1 hlo hhi
  have hmem := memGet_filter_keptByReset s.prod s.mem
  have hvector := memRead2_of_rom (a := 0x0000#16) (lo := lo) (hi := hi)
    (s := { s with inputs := rest, mem := s.mem.filter (keptByReset s.prod), stored := [] })
    hr hr1 ((hmem 0x0000#16).trans (by simpa [hr] using hlo))
    ((hmem 0x0001#16).trans (by simpa [hr1] using hhi))
  have hinput : resetInput { s with inputs := rest } = _ := res_bind_ok.2 ⟨_, hvector, rfl⟩
  have hstep := (step_of_reset hin hreset).trans
    (toOutcome_eq_next.2 (res_map_ok.2 ⟨_, hinput, rfl⟩))
  refine ⟨_, hstep, join_eq_ofNat hi lo, rfl, rfl, rfl, rfl, rfl, rfl, fun a => ?_⟩
  simp only [applyInput, hsfr, List.filter_nil, List.foldl_nil]
  refine ⟨fun hkept => ?_, fun hlost => ?_⟩
  · rw [hmem a, if_pos hkept]
  · rw [hmem a, if_neg (by rcases hlost with h | h | h <;> simp [h])]


end Sys2Proof.StateRules

/-! The memory family (20_memory.md): the regions and their rights, operand addresses, stack bytes,
fetches, the instructions with a memory operand, and what no step changes. -/

namespace Sys2Proof.MemoryRules

open Sys2Proof.Machine Sys2Proof.Claims Sys2Proof.Scope Sys2Proof.StateRules

variable {i : Instr} {f : MemForm} {u : AccessUnit} {reads : Bool} {s t s1 s2 : State} {a ea : Word}
  {v : Byte} {e : Stop}
/-! ### Regions (20_memory.md R61 to R67) -/

/-- `EEPROM` holds the address (20_memory.md R66). -/
def InEeprom (p : Product) (a : Word) : Prop :=
  (p.eeprom = .bytes256 ∧ Within 0xF800 0xF8FF a) ∨ (p.eeprom = .bytes128 ∧ Within 0xF800 0xF87F a)

theorem eepromHolds_iff {p : Product} {a : Word} :
    eepromHolds p.eeprom a = true ↔ InEeprom p a := by
  cases h : p.eeprom <;> simp [eepromHolds, InEeprom, Within, BitVec.le_def, h]

theorem inStackRam_iff {p : Product} {a : Word} :
    inStackRam p a = true ↔ Within p.ramBase.toNat 0xFEFF a := by
  simp [inStackRam, Within, BitVec.le_def]

theorem pswSp_iff {a : Word} :
    a = 0xFF1C#16 ∨ a = 0xFF1D#16 ∨ a = 0xFF1E#16 ↔ Within 0xFF1C 0xFF1E a := by
  simp only [Within, ← BitVec.toNat_inj, BitVec.toNat_ofNat]
  omega

open Classical in
/-- The regions by their bounds, in the order that settles an overlap (log 31). -/
theorem region_eq (p : Product) (a : Word) : region p a =
    if Within 0xFF00 0xFFFF a then if Within 0xFF1C 0xFF1E a then .pswSp else .sfr
    else if Within p.ramBase.toNat 0xFEFF a then .ram
    else if Within 0x0000 p.romTop.toNat a then .rom
    else if p.lcdRam = true ∧ Within 0xFA00 0xFA1B a then .lcdRam
    else if InEeprom p a then .eeprom
    else .unmapped := by
  have hsfr : 0xFF00#16 ≤ a ↔ Within 0xFF00 0xFFFF a := by
    have := a.isLt
    simp only [Within, BitVec.le_def, BitVec.toNat_ofNat]
    omega
  have hrom : a ≤ p.romTop ↔ Within 0x0000 p.romTop.toNat a := by
    simp [Within, BitVec.le_def]
  have hlcd : (p.lcdRam && decide (0xFA00#16 ≤ a) && decide (a ≤ 0xFA1B#16)) = true ↔
      p.lcdRam = true ∧ Within 0xFA00 0xFA1B a := by
    simp [Within, BitVec.le_def, and_assoc]
  simp only [region, pswSp_iff, hsfr, inStackRam_iff, hrom, hlcd, eepromHolds_iff]

/-- No bounds overlap where the product keeps its regions apart (log 31). -/
theorem bounds_apart {p : Product} {a : Word} (h : LaidOut p) :
    (Within 0x0000 p.romTop.toNat a →
      ¬Within 0xFF00 0xFFFF a ∧ ¬Within p.ramBase.toNat 0xFEFF a) ∧
    (Within 0xFA00 0xFA1B a → ¬Within 0xFF00 0xFFFF a ∧ ¬Within p.ramBase.toNat 0xFEFF a ∧
      ¬Within 0x0000 p.romTop.toNat a) ∧
    (InEeprom p a → ¬Within 0xFF00 0xFFFF a ∧ ¬Within p.ramBase.toNat 0xFEFF a ∧
      ¬Within 0x0000 p.romTop.toNat a ∧ ¬Within 0xFA00 0xFA1B a) := by
  obtain ⟨hrom, hram⟩ := h
  simp only [Within, InEeprom]
  omega

/-- The bounds pick out the regions; ROM, LCD RAM and EEPROM where the product keeps them apart. -/
theorem regionAt (p : Product) (a : Word) : RegionAt p a := by
  have hpsw : Within 0xFF1C 0xFF1E a → Within 0xFF00 0xFFFF a := by
    simp only [Within]; omega
  have hram : Within p.ramBase.toNat 0xFEFF a → ¬Within 0xFF00 0xFFFF a := by
    simp only [Within]; omega
  rw [RegionAt, region_eq]
  refine ⟨?_, ?_, ?_, fun hlaid => ?_⟩
  · split_ifs <;> simp_all
  · split_ifs <;> simp_all
  · split_ifs <;> simp_all
  · obtain ⟨hrom, hlcd, heeprom⟩ := bounds_apart (a := a) hlaid
    rw [← InEeprom]
    refine ⟨?_, ?_, ?_⟩ <;> split_ifs <;> simp_all

/-- Every product of R63 to R66 keeps its regions apart. -/
theorem laidOut_product (q : Part) (m : List SfrEntry) (w : PswFixed) (r : Bool) :
    LaidOut (q.product m w r) := by
  show q.romTop.toNat < 0xF800 ∧ 0xFA1B < q.ramBase.toNat
  cases q <;> decide

/-! ### Byte reads (20_memory.md R69, R80) -/

theorem readCell_of_held (h : s.held a = some v) : readCell s a = .ok v := readCell_eq_ok.2 h

/-- An EEPROM byte is read whether an image lists it or not (R66, log 33). -/
theorem memRead_eeprom_of_held (hr : region s.prod a = .eeprom) (hv : s.held a = some v) :
    memRead u a s = .ok (v, s) := by
  simp [memRead, hr, readCell_of_held hv, Except.map]

/-- A storage SFR is read whether a program has written it or not (R68, log 34). -/
theorem memRead_storage_of_held {e : SfrEntry} (hr : region s.prod a = .sfr)
    (he : sfrEntry? s.prod a = some e) (hu : sfrAllows e u = true) (hread : e.readable = true)
    (hk : e.kind = .storage) (hv : s.held a = some v) : memRead u a s = .ok (v, s) := by
  simp [memRead, hr, sfrRead, he, hu, hread, hk, readCell_of_held hv, Except.map]

/-- ROM, LCD RAM and RAM hold what is listed and nothing else (R62, R80, log 6). -/
theorem memRead_of_plain
    (hr : region s.prod a = .rom ∨ region s.prod a = .lcdRam ∨ region s.prod a = .ram) :
    (∀ v, memGet s.mem a.toNat = some v → memRead u a s = .ok (v, s)) ∧
      (memGet s.mem a.toNat = none → memRead u a s = .error (.fault (.unwritten a))) := by
  have hunlisted : unlistedByte s.prod a = none := by
    rcases hr with h | h | h <;> simp only [unlistedByte, h]
  have hread : memRead u a s = (readCell s a).map fun v => (v, s) := by
    rcases hr with h | h | h <;> simp only [memRead, h]
  rw [hread]
  refine ⟨fun v hv => by rw [readCell_of_held (held_listed hv)]; rfl, fun hnone => ?_⟩
  simp [readCell, held_unlisted hnone, hunlisted, Except.map]

/-- The addresses of PSW and SP are a region of their own (R97, D9). -/
theorem region_pswSp (p : Product) (ha : a = 0xFF1C#16 ∨ a = 0xFF1D#16 ∨ a = 0xFF1E#16) :
    region p a = .pswSp :=
  (regionAt p a).1.2 (pswSp_iff.1 ha)

/-- All a read of an SFR answers (R68, U14). -/
theorem memRead_sfr {e : SfrEntry} (hr : region s.prod a = .sfr)
    (he : sfrEntry? s.prod a = some e) :
    (sfrAllows e u = false → memRead u a s = .error (.refused (.sfrUnit a))) ∧
    (sfrAllows e u = true → e.readable = false →
      memRead u a s = .error (.refused (.sfrNotReadable a))) ∧
    (sfrAllows e u = true → e.readable = true → e.kind = .storage →
      ∀ v, memGet s.mem a.toNat = some v → memRead u a s = .ok (v, s)) ∧
    (sfrAllows e u = true → e.readable = true → e.kind = .device →
      ∃ v, memRead u a s = .ok (v, { s with draws := s.draws + 1 })) := by
  refine ⟨fun hu => ?_, fun hu hread => ?_, fun hu hread hk v hv => ?_, fun hu hread hk =>
    ⟨Config.drawByte s.draws, ?_⟩⟩
  · simp [memRead, hr, sfrRead, he, hu, refuse]
  · simp [memRead, hr, sfrRead, he, hu, hread, refuse]
  · exact memRead_storage_of_held hr he hu hread hk (held_listed hv)
  · simp only [memRead, hr, sfrRead, he, hu, hread, hk]
    rfl

/-- Settles O7, region by region. -/
theorem dataReads : Obligations.DataReads := by
  refine ⟨laidOut_product, fun u a s => ⟨regionAt s.prod a, memRead_of_plain, fun hr v hv => ?_,
    ⟨Config.eepromByte a.toNat, fun t w hr hnone => ?_⟩,
    ⟨Config.sfrByte a.toNat, fun t w e hr he hu hread hk hnone => ?_⟩, fun hr => ?_, fun ha => ?_,
    fun hr => ⟨fun he => ?_, fun e he => memRead_sfr hr he⟩⟩⟩
  · exact memRead_eeprom_of_held hr (held_listed hv)
  · exact memRead_eeprom_of_held hr (by simp [held_unlisted hnone, unlistedByte, hr])
  · exact memRead_storage_of_held hr he hu hread hk
      (by simp [held_unlisted hnone, unlistedByte, hr])
  · simp [memRead, hr, refuse]
  · simp [memRead, region_pswSp s.prod ha, refuse]
  · simp [memRead, hr, sfrRead, he, refuse]

/-! ### Byte writes (20_memory.md R69, R80, R94) -/

/-- Where the unit may not write, the write is refused, whatever the byte and the memory. -/
theorem memWrite_refused_of_not_writable {p : Product} (h : ¬Writable u p a) :
    ∃ r, ∀ (w : Byte) (s : State), s.prod = p → memWrite u a w s = .error (.refused r) := by
  cases hr : region p a with
  | ram => exact absurd (.inl hr) h
  | lcdRam => exact absurd (.inr (.inl hr)) h
  | rom => exact ⟨.romWrite a, fun w s hs => by simp [memWrite, hs, hr, refuse]⟩
  | eeprom => exact ⟨.eepromWrite a, fun w s hs => by simp [memWrite, hs, hr, refuse]⟩
  | pswSp => exact ⟨.pswSpAddress a, fun w s hs => by simp [memWrite, hs, hr, refuse]⟩
  | unmapped => exact ⟨.unmapped a, fun w s hs => by simp [memWrite, hs, hr, refuse]⟩
  | sfr =>
    cases he : sfrEntry? p a with
    | none => exact ⟨.noSfr a, fun w s hs => by simp [memWrite, sfrWrite, hs, hr, he, refuse]⟩
    | some e =>
      cases hu : sfrAllows e u with
      | false =>
        exact ⟨.sfrUnit a, fun w s hs => by simp [memWrite, sfrWrite, hs, hr, he, hu, refuse]⟩
      | true =>
        have hw : e.writable = false :=
          Bool.eq_false_iff.2 fun hw => h (.inr (.inr ⟨hr, e, he, hu, hw⟩))
        exact ⟨.sfrNotWritable a, fun w s hs => by
          simp [memWrite, sfrWrite, hs, hr, he, hu, hw, refuse]⟩

/-- All a write that answers leaves: its frame, and the byte in memory and noted, or in the log. -/
theorem memWrite_outcome (h : memWrite u a v s = .ok t) :
    Accessed s t [a] ∧ t.draws = s.draws ∧
      (isCell s.prod a →
        memGet t.mem a.toNat = some v ∧ t.sfrLog = s.sfrLog ∧ Noted s t.stored [a]) ∧
      (isDevice s.prod a →
        t.mem = s.mem ∧ t.stored = s.stored ∧ t.sfrLog = (a.toNat, v) :: s.sfrLog) := by
  refine ⟨memWrite_accessed h, ?_⟩
  obtain ⟨rfl, hcell, -⟩ | ⟨rfl, hdev⟩ := memWrite_ok h
  · exact ⟨rfl, fun _ => ⟨memGet_memPut_self .., rfl, noted_storeByte s a v⟩,
      fun hdev => absurd hdev (not_isDevice_of_isCell hcell)⟩
  · exact ⟨rfl, fun hcell => absurd hdev (not_isDevice_of_isCell hcell), fun _ => ⟨rfl, rfl, rfl⟩⟩

/-- Settles O8, region by region. -/
theorem dataWrites : Obligations.DataWrites := by
  intro u a v s
  refine ⟨fun hr => ?_, fun hr => ?_, fun hr => ?_, fun ha => ?_, fun hr he => ?_,
    fun e hr he => ⟨fun hu => ?_, fun hu hw => ?_⟩, fun hw => ?_⟩
  · simp [memWrite, hr, refuse]
  · simp [memWrite, hr, refuse]
  · simp [memWrite, hr, refuse]
  · simp [memWrite, region_pswSp s.prod ha, refuse]
  · simp [memWrite, hr, sfrWrite, he, refuse]
  · simp [memWrite, hr, sfrWrite, he, hu, refuse]
  · simp [memWrite, hr, sfrWrite, he, hu, hw, refuse]
  · obtain ⟨t, ht⟩ := memWrite_of_writable v hw
    exact ⟨t, ht, memWrite_outcome ht⟩

/-! ### Two-byte accesses (20_memory.md R80, R81, R83) -/

theorem memRead2_of_reads {lo hi : Byte} (hlo : memRead .word a s = .ok (lo, s1))
    (hhi : memRead .word (a + 1#16) s1 = .ok (hi, s2)) : memRead2 a s = .ok (join hi lo, s2) :=
  res_bind_ok.2 ⟨_, hlo, res_bind_ok.2 ⟨_, hhi, rfl⟩⟩

theorem memWrite2_of_writes {w : Word} (hlo : memWrite .word a (loByte w) s = .ok s1)
    (hhi : memWrite .word (a + 1#16) (hiByte w) s1 = .ok s2) : memWrite2 a w s = .ok s2 :=
  res_bind_ok.2 ⟨_, hlo, hhi⟩

/-- The second of two writes leaves the byte of the first. -/
theorem memGet_of_two_writes {lo hi : Byte} (hlo : memWrite .word a lo s = .ok s1)
    (hhi : memWrite .word (a + 1#16) hi s1 = .ok s2) (hc : isCell s.prod a) :
    memGet s2.mem a.toNat = some lo :=
  ((memWrite_accessed hhi).mem a (by simp)).trans (memGet_memWrite_self hlo hc)

theorem isCell_of_ram {p : Product} (h : region p a = .ram) : isCell p a :=
  .inr (.inr (.inr (.inl h)))

/-- Settles O9. -/
theorem wordAccesses : Obligations.WordAccesses := by
  intro a s s1
  refine ⟨fun lo hi s2 hlo hhi => ⟨_, memRead2_of_reads hlo hhi, join_toNat hi lo⟩,
    fun w s2 hlo hhi => ?_⟩
  have acc : Accessed s s2 [a, a + 1#16] := (memWrite_accessed hlo).trans (memWrite_accessed hhi)
  rw [← loByte_eq_ofNat] at hlo ⊢
  rw [← hiByte_eq_ofNat] at hhi ⊢
  refine ⟨memWrite2_of_writes hlo hhi, acc, fun hr hr1 => ?_⟩
  have hlow := memGet_of_two_writes hlo hhi (isCell_of_ram hr)
  have hhigh := memGet_memWrite_self hhi ((memWrite_accessed hlo).prod ▸ isCell_of_ram hr1)
  have hword := memRead2_of_reads (memRead_of_listed (.inr (acc.prod ▸ hr)) hlow)
    (memRead_of_listed (.inr (acc.prod ▸ hr1)) hhigh)
  rw [join_hiByte_loByte] at hword
  exact ⟨hlow, hhigh, hword⟩

/-- Settles O21. -/
theorem wordMoves : Obligations.WordMoves := by
  intro so s ea hea
  refine ⟨fun lo hi s1 s2 hlo hhi => ?_, fun hw hw1 => ?_⟩
  · have acc : Accessed s s2 [] := (memRead_accessed hlo).trans (memRead_accessed hhi)
    refine ⟨?_, acc, (memRead_mem hhi).trans (memRead_mem hlo)⟩
    have hexec : exec (.movwAxSaddrp so) s = .next ((s2.setPair .ax (join hi lo)).done 2) :=
      toOutcome_eq_next.2 (res_bind_ok.2 ⟨_, hea, res_bind_ok.2
        ⟨_, memRead2_of_reads hlo hhi, rfl⟩⟩)
    rw [hexec, setPair_join, ← acc.regs, ← acc.pc]
    rfl
  · obtain ⟨s1, hlo⟩ := memWrite_of_writable s.regs.x hw
    have acc1 := memWrite_accessed hlo
    obtain ⟨s2, hhi⟩ := memWrite_of_writable s.regs.a (acc1.prod ▸ hw1)
    have acc : Accessed s s2 [ea, ea + 1#16] := acc1.trans (memWrite_accessed hhi)
    have hword : memWrite2 ea (s.pair .ax) s = .ok s2 :=
      memWrite2_of_writes ((congrArg (memWrite .word ea · s) (loByte_join ..)).trans hlo)
        ((congrArg (memWrite .word (ea + 1#16) · s1) (hiByte_join ..)).trans hhi)
    refine ⟨s1, s2, hlo, hhi, ?_, acc, memGet_of_two_writes hlo hhi, fun hc =>
      memGet_memWrite_self hhi (acc1.prod ▸ hc)⟩
    rw [← acc.pc]
    exact toOutcome_eq_next.2 (res_bind_ok.2 ⟨_, hea, res_bind_ok.2 ⟨_, hword, rfl⟩⟩)

/-! ### Stack bytes (20_memory.md R77, R98) -/

theorem inStackRam_iff_between {p : Product} :
    inStackRam p a = true ↔ p.ramBase ≤ a ∧ a ≤ 0xFEFF#16 := by
  simp [inStackRam]

/-- Settles O10. -/
theorem stackAccesses : Obligations.StackAccesses := by
  intro v s
  simp only [← inStackRam_iff_between, Bool.not_eq_true]
  refine ⟨fun hin => ?_, push8_of_not_inStackRam, fun hin => ⟨fun hv => ?_, fun hnone => ?_⟩,
    fun hout => by simp [pop8, hout, refuse]⟩
  · refine ⟨_, _, push8_of_inStackRam hin, ⟨?_, fun b hb => ?_⟩,
      noted_storeByte (s.setSp (s.sp - 1#16)) (s.sp - 1#16) v⟩
    · simp
    · exact memGet_memPut_ne s.mem v fun he =>
        hb _ List.mem_cons_self (BitVec.eq_of_toNat_eq he.symm)
  · simp only [pop8, hin, if_true, memRead_of_listed (.inr (region_of_inStackRam hin)) hv]
    rfl
  · have hread := (memRead_of_plain (u := .byte) (.inr (.inr (region_of_inStackRam hin)))).2 hnone
    simp [pop8, hin, hread, Except.map]

/-! ### Fetches (20_memory.md R62, R69, R94) -/

/-- What a fetch answers where it has the right to: the byte listed. -/
theorem fetchByte_of_right (h : region s.prod a = .rom ∨
      (region s.prod a = .ram ∧ s.prod.fetchFromRam = true ∧ a.toNat ∉ s.stored)) :
    (∀ v, memGet s.mem a.toNat = some v → fetchByte a s = .ok v) ∧
      (memGet s.mem a.toNat = none → fetchByte a s = .error (.fault (.unwrittenFetch a))) := by
  rcases h with hr | ⟨hr, hf, hs⟩
  · exact ⟨fun v hv => by simp [fetchByte, hr, hv], fun hnone => by simp [fetchByte, hr, hnone]⟩
  · exact ⟨fun v hv => by simp [fetchByte, hr, hf, hs, hv],
      fun hnone => by simp [fetchByte, hr, hf, hs, hnone]⟩

/-- Settles O11. -/
theorem fetchRights : Obligations.FetchRights := by
  intro a s
  refine ⟨fun hr => fetchByte_of_right (.inl hr), fun hr => ⟨fun hf => ?_, fun hf hs => ?_,
    fun hf hs => fetchByte_of_right (.inr ⟨hr, hf, hs⟩)⟩, fun hrom hram => ?_⟩
  · simp [fetchByte, hr, hf, refuse]
  · simp [fetchByte, hr, hf, hs, refuse]
  · cases hr : region s.prod a with
    | rom => exact absurd hr hrom
    | ram => exact absurd hr hram
    | eeprom | lcdRam | sfr | pswSp | unmapped => simp [fetchByte, hr, refuse]

/-! ### Operand addresses (20_memory.md R72, R73, R75, R76, R82, R97) -/

theorem saddrEa_eq_ofNat (o : Byte) :
    saddrEa o = BitVec.ofNat 16 ((if 0x20 ≤ o.toNat then 0xFE00 else 0xFF00) + o.toNat) := by
  have hle : 0x20#8 ≤ o ↔ 0x20 ≤ o.toNat := BitVec.le_def
  simp only [saddrEa, hle]
  split <;> exact join_eq_ofNat _ o

theorem sfrEa_eq_ofNat (o : Byte) : sfrEa o = BitVec.ofNat 16 (0xFF00 + o.toNat) :=
  join_eq_ofNat 0xFF#8 o

theorem saddrOk_iff {o : Byte} : saddrOk o = true ↔ ¬(o = 0x1C#8 ∨ o = 0x1D#8 ∨ o = 0x1E#8) := by
  simp [saddrOk, and_assoc]

theorem getLsbD_zero_iff {o : Byte} : o.getLsbD 0 = true ↔ o.toNat % 2 = 1 := by
  simp [BitVec.getLsbD]

theorem saddrpOk_iff {o : Byte} :
    saddrpOk o = true ↔ o.toNat % 2 ≠ 1 ∧ o ≠ 0x1C#8 ∧ o ≠ 0x1E#8 := by
  simp only [saddrpOk, Bool.and_eq_true, bne_iff_ne, Bool.not_eq_true', ← Bool.not_eq_true,
    getLsbD_zero_iff, ne_eq, and_assoc]

/-- The Sfr-offsets that R73 leaves out. -/
theorem sfrGap_iff {o : Byte} :
    (decide (0xD0#8 ≤ o) && decide (o ≤ 0xDF#8)) = true ↔ 0xD0 ≤ o.toNat ∧ o.toNat ≤ 0xDF := by
  simp [BitVec.le_def]

theorem sfrOk_iff {o : Byte} : sfrOk o = true ↔
    ¬(0xD0 ≤ o.toNat ∧ o.toNat ≤ 0xDF) ∧ ¬(o = 0x1C#8 ∨ o = 0x1D#8 ∨ o = 0x1E#8) := by
  rw [← sfrGap_iff, Bool.not_eq_true]
  simp only [sfrOk, Bool.and_eq_true, Bool.not_eq_true', bne_iff_ne, ne_eq, and_assoc, not_or]

/-- Settles O5. -/
theorem operandAddresses : Obligations.OperandAddresses := by
  refine ⟨fun o => ?_, fun o hsp => ?_, fun o => ?_⟩
  · simp only [eaSaddr, saddrOk_iff, ite_not, ← saddrEa_eq_ofNat]
    rfl
  · simp only [eaSaddrp, getLsbD_zero_iff, saddrpOk_iff, ← saddrEa_eq_ofNat]
    split_ifs <;> simp_all [refuse]
  · simp only [eaSfr, sfrGap_iff, sfrOk_iff, ← sfrEa_eq_ofNat]
    split_ifs <;> simp_all [refuse]

/-- An instruction with a memory operand writes no register but A and X (R75, R76). -/
theorem regsWritten_of_memOperand (h : memOperand i = some (f, u, reads)) :
    ∀ r ∈ regsWritten i, r = .a ∨ r = .x := by
  cases i <;> cases h <;> simp [regsWritten]

theorem eaHlb_toNat (d : Byte) (s : State) :
    (eaHlb d s).toNat = ((s.pair .hl).toNat + d.toNat) % 65536 := by
  simp only [eaHlb, zext16, BitVec.toNat_add]
  simp

/-- Settles O6. -/
theorem registerAddressing : Obligations.RegisterAddressing := by
  intro s d
  refine ⟨rfl, rfl, eaHlb_toNat d s, fun i f u reads t hm _ h => ?_⟩
  have kept (r : Reg) (ha : r ≠ .a) (hx : r ≠ .x) : t.reg r = s.reg r :=
    (registerWriters i s t h).1 r fun hr => (regsWritten_of_memOperand hm r hr).elim ha hx
  exact ⟨congrArg₂ join (kept .d nofun nofun) (kept .e nofun nofun),
    congrArg₂ join (kept .h nofun nofun) (kept .l nofun nofun)⟩

/-! ### What an instruction does at its memory operand

Every instruction with a memory operand finds its address by `MemForm.ea` and then makes one of five
kinds of access; what it does with the byte afterwards reaches no memory. -/

/-- An access at an operand address: what is written and how the instruction ends. -/
inductive Access where
  | load (fin : Byte → State → State)
  | store (val : State → Byte) (fin : State → State)
  /-- read, then write back; the end may look at the state before the write -/
  | modify (val : Byte → State → Byte) (fin : Byte → State → State → State)
  | loadWord (fin : Word → State → State)
  | storeWord (val : State → Word) (fin : State → State)

/-- The access, at its address. -/
def Access.run (g : Access) (u : AccessUnit) (ea : Word) (s : State) : Res State :=
  match g with
  | .load fin => do
    let (v, s1) ← memRead u ea s
    return fin v s1
  | .store val fin => do
    let s1 ← memWrite u ea (val s) s
    return fin s1
  | .modify val fin => do
    let (v, s1) ← memRead u ea s
    let s2 ← memWrite u ea (val v s1) s1
    return fin v s1 s2
  | .loadWord fin => do
    let (w, s1) ← memRead2 ea s
    return fin w s1
  | .storeWord val fin => do
    let s1 ← memWrite2 ea (val s) s
    return fin s1

/-- The access has this unit, reads first or not, and writes back what it read or not. -/
def Access.Fits (u : AccessUnit) (reads back : Bool) : Access → Prop
  | .load _ => reads = true ∧ back = false
  | .store _ _ => reads = false ∧ back = false
  | .modify _ _ => reads = true ∧ back = true
  | .loadWord _ => u = .word ∧ reads = true ∧ back = false
  | .storeWord _ _ => u = .word ∧ reads = false ∧ back = false

/-- `t` has the memory and the product of `s`. -/
def SameMemory (s t : State) : Prop := t.mem = s.mem ∧ t.prod = s.prod

/-- The end of the access reaches no memory. -/
def Access.Quiet : Access → Prop
  | .load fin => ∀ v s, SameMemory s (fin v s)
  | .store _ fin => ∀ s, SameMemory s (fin s)
  | .modify _ fin => ∀ v s1 s, SameMemory s (fin v s1 s)
  | .loadWord fin => ∀ w s, SameMemory s (fin w s)
  | .storeWord _ fin => ∀ s, SameMemory s (fin s)

/-- Instruction `i`, with this operand, makes an access that fits its entries in the tables. -/
def Accesses (i : Instr) (f : MemForm) (u : AccessUnit) (reads : Bool) : Prop :=
  ∃ g : Access, (∀ s, exec i s = toOutcome (f.ea s >>= fun ea => g.run u ea s)) ∧
    g.Fits u reads (writesBack i) ∧ g.Quiet

theorem accesses_loadA (n : Nat)
    (he : ∀ s, exec i s = toOutcome (f.ea s >>= fun ea => loadA ea n s) := by exact fun _ => rfl)
    (hb : writesBack i = false := by rfl) : Accesses i f .byte true :=
  ⟨.load fun v s => (s.setReg .a v).done n, he, ⟨rfl, hb⟩, fun _ _ => ⟨rfl, rfl⟩⟩

theorem accesses_storeAt (val : State → Byte) (n : Nat)
    (he : ∀ s, exec i s = toOutcome (f.ea s >>= fun ea => storeAt ea (val s) n s) := by
      exact fun _ => rfl)
    (hb : writesBack i = false := by rfl) : Accesses i f .byte false :=
  ⟨.store val fun s => s.done n, he, ⟨rfl, hb⟩, fun _ => ⟨rfl, rfl⟩⟩

theorem accesses_xchA (n : Nat)
    (he : ∀ s, exec i s = toOutcome (f.ea s >>= fun ea => xchA ea n s) := by exact fun _ => rfl)
    (hb : writesBack i = true := by rfl) : Accesses i f .byte true :=
  ⟨.modify (fun _ s => s.reg .a) fun v _ s => (s.setReg .a v).done n, he, ⟨rfl, hb⟩,
    fun _ _ _ => ⟨rfl, rfl⟩⟩

theorem accesses_aluMem (op : AluOp) (n : Nat)
    (he : ∀ s, exec i s = toOutcome (f.ea s >>= fun ea => aluMem op ea n s) := by
      exact fun _ => rfl)
    (hb : writesBack i = false := by rfl) : Accesses i f .byte true :=
  ⟨.load fun v s => aluA op v n s, he, ⟨rfl, hb⟩, fun _ _ => by cases op <;> exact ⟨rfl, rfl⟩⟩

theorem accesses_aluAt (op : AluOp) (data : Byte) (n : Nat) (hop : op.stores = true := by rfl)
    (he : ∀ s, exec i s = toOutcome (f.ea s >>= fun ea => aluAt op ea data n s) := by
      exact fun _ => rfl)
    (hb : writesBack i = true := by rfl) : Accesses i f .byte true := by
  refine ⟨.modify (fun v s => (aluEval op v data (s.flag .cy)).res)
    fun v s1 s => (s.setAlu (aluEval op v data (s1.flag .cy))).done n, fun s => ?_, ⟨rfl, hb⟩,
    fun _ _ _ => ⟨rfl, rfl⟩⟩
  simp only [he, aluAt, writeIf, hop, if_true]
  rfl

theorem accesses_incDecAt (op : Byte → Arith8) (n : Nat)
    (he : ∀ s, exec i s = toOutcome (f.ea s >>= fun ea => incDecAt op ea n s) := by
      exact fun _ => rfl)
    (hb : writesBack i = true := by rfl) : Accesses i f .byte true :=
  ⟨.modify (fun v _ => (op v).res) fun v _ s => (s.setZAc (op v)).done n, he, ⟨rfl, hb⟩,
    fun _ _ _ => ⟨rfl, rfl⟩⟩

theorem accesses_modifyBitAt (op : Byte → Byte) (n : Nat)
    (he : ∀ s, exec i s = toOutcome (f.ea s >>= fun ea => modifyBitAt op ea n s) := by
      exact fun _ => rfl)
    (hb : writesBack i = true := by rfl) : Accesses i f .bit true :=
  ⟨.modify (fun v _ => op v) fun _ _ s => s.done n, he, ⟨rfl, hb⟩, fun _ _ _ => ⟨rfl, rfl⟩⟩

theorem accesses_branchOnBitAt (want : Bool) (b : BitVec 3) (n : Nat) (jd : Byte)
    (he : ∀ s, exec i s = toOutcome (f.ea s >>= fun ea => branchOnBitAt want ea b n jd s) := by
      exact fun _ => rfl)
    (hb : writesBack i = false := by rfl) : Accesses i f .bit true :=
  ⟨.load fun v s => s.branchIf (testBit v b == want) n jd, he, ⟨rfl, hb⟩, fun _ _ => ⟨rfl, rfl⟩⟩

/-- The memory operand of an instruction is what it accesses, shape by shape. -/
theorem accesses_of_memOperand (h : memOperand i = some (f, u, reads)) :
    Accesses i f u reads := by
  cases i with
  | movASaddr so | movASfr fo | movAHlb data => cases h; exact accesses_loadA 2
  | movAAddr16 addr => cases h; exact accesses_loadA 3
  | movADe | movAHl => cases h; exact accesses_loadA 1
  | movSaddrByte so data | movSfrByte fo data => cases h; exact accesses_storeAt (fun _ => data) 3
  | movSaddrA so | movSfrA fo | movHlbA data => cases h; exact accesses_storeAt (·.reg .a) 2
  | movAddr16A addr => cases h; exact accesses_storeAt (·.reg .a) 3
  | movDeA | movHlA => cases h; exact accesses_storeAt (·.reg .a) 1
  | xchASaddr so | xchASfr fo | xchAHlb data => cases h; exact accesses_xchA 2
  | xchADe | xchAHl => cases h; exact accesses_xchA 1
  | movwAxSaddrp so =>
    cases h
    exact ⟨.loadWord fun w s => (s.setPair .ax w).done 2, fun _ => rfl, ⟨rfl, rfl, rfl⟩,
      fun _ _ => ⟨rfl, rfl⟩⟩
  | movwSaddrpAx so =>
    cases h
    exact ⟨.storeWord (·.pair .ax) fun s => s.done 2, fun _ => rfl, ⟨rfl, rfl, rfl⟩,
      fun _ => ⟨rfl, rfl⟩⟩
  | addASaddr so | addAHlb data => cases h; exact accesses_aluMem .add 2
  | addAAddr16 addr => cases h; exact accesses_aluMem .add 3
  | addAHl => cases h; exact accesses_aluMem .add 1
  | addcASaddr so | addcAHlb data => cases h; exact accesses_aluMem .addc 2
  | addcAAddr16 addr => cases h; exact accesses_aluMem .addc 3
  | addcAHl => cases h; exact accesses_aluMem .addc 1
  | subASaddr so | subAHlb data => cases h; exact accesses_aluMem .sub 2
  | subAAddr16 addr => cases h; exact accesses_aluMem .sub 3
  | subAHl => cases h; exact accesses_aluMem .sub 1
  | subcASaddr so | subcAHlb data => cases h; exact accesses_aluMem .subc 2
  | subcAAddr16 addr => cases h; exact accesses_aluMem .subc 3
  | subcAHl => cases h; exact accesses_aluMem .subc 1
  | andASaddr so | andAHlb data => cases h; exact accesses_aluMem .and 2
  | andAAddr16 addr => cases h; exact accesses_aluMem .and 3
  | andAHl => cases h; exact accesses_aluMem .and 1
  | orASaddr so | orAHlb data => cases h; exact accesses_aluMem .or 2
  | orAAddr16 addr => cases h; exact accesses_aluMem .or 3
  | orAHl => cases h; exact accesses_aluMem .or 1
  | xorASaddr so | xorAHlb data => cases h; exact accesses_aluMem .xor 2
  | xorAAddr16 addr => cases h; exact accesses_aluMem .xor 3
  | xorAHl => cases h; exact accesses_aluMem .xor 1
  | cmpASaddr so | cmpAHlb data => cases h; exact accesses_aluMem .cmp 2
  | cmpAAddr16 addr => cases h; exact accesses_aluMem .cmp 3
  | cmpAHl => cases h; exact accesses_aluMem .cmp 1
  | addSaddrByte so data => cases h; exact accesses_aluAt .add data 3
  | addcSaddrByte so data => cases h; exact accesses_aluAt .addc data 3
  | subSaddrByte so data => cases h; exact accesses_aluAt .sub data 3
  | subcSaddrByte so data => cases h; exact accesses_aluAt .subc data 3
  | andSaddrByte so data => cases h; exact accesses_aluAt .and data 3
  | orSaddrByte so data => cases h; exact accesses_aluAt .or data 3
  | xorSaddrByte so data => cases h; exact accesses_aluAt .xor data 3
  | cmpSaddrByte so data =>
    cases h
    exact ⟨.load fun v s => (s.setAlu (aluEval .cmp v data (s.flag .cy))).done 3, fun _ => rfl,
      ⟨rfl, rfl⟩, fun _ _ => ⟨rfl, rfl⟩⟩
  | incSaddr so => cases h; exact accesses_incDecAt (fun v => add8 v 1#8 false) 2
  | decSaddr so => cases h; exact accesses_incDecAt (fun v => sub8 v 1#8 false) 2
  | dbnzSaddr so jd =>
    cases h
    exact ⟨.modify (fun v _ => v - 1#8) fun v _ s => s.branchIf (v - 1#8 != 0#8) 3 jd,
      fun _ => rfl, ⟨rfl, rfl⟩, fun _ _ _ => ⟨rfl, rfl⟩⟩
  | set1Saddr b so | set1Sfr b fo => cases h; exact accesses_modifyBitAt (setBit · b) 3
  | set1Hl b => cases h; exact accesses_modifyBitAt (setBit · b) 2
  | clr1Saddr b so | clr1Sfr b fo => cases h; exact accesses_modifyBitAt (clearBit · b) 3
  | clr1Hl b => cases h; exact accesses_modifyBitAt (clearBit · b) 2
  | btSaddr b so jd | btSfr b fo jd => cases h; exact accesses_branchOnBitAt true b 4 jd
  | bfSaddr b so jd | bfSfr b fo jd => cases h; exact accesses_branchOnBitAt false b 4 jd
  | _ => cases h

/-! ### ROM and EEPROM through an access (20_memory.md R62, R66, R69) -/

/-- The product, and every byte of ROM and of EEPROM, is in `t` as in `s`. -/
structure KeepsRom (s t : State) : Prop where
  prod : t.prod = s.prod
  mem : ∀ a : Word, region s.prod a = .rom ∨ region s.prod a = .eeprom →
    memGet t.mem a.toNat = memGet s.mem a.toNat

theorem KeepsRom.refl (s : State) : KeepsRom s s := ⟨rfl, fun _ _ => rfl⟩

theorem KeepsRom.trans {w : State} (h : KeepsRom s t) (g : KeepsRom t w) : KeepsRom s w :=
  ⟨g.prod.trans h.prod, fun a ha => (g.mem a (h.prod ▸ ha)).trans (h.mem a ha)⟩

theorem KeepsRom.of_same (h : SameMemory s t) : KeepsRom s t :=
  ⟨h.2, fun a _ => by rw [h.1]⟩

/-- A frame whose stores lie outside ROM and EEPROM keeps both. -/
theorem KeepsRom.of_accessed {l : List Word} (acc : Accessed s t l)
    (hl : ∀ b ∈ l, ¬(region s.prod b = .rom ∨ region s.prod b = .eeprom)) : KeepsRom s t :=
  ⟨acc.prod, fun b hb => acc.mem b fun hmem => hl b hmem hb⟩

theorem memRead_keepsRom (h : memRead u a s = .ok (v, t)) : KeepsRom s t :=
  .of_accessed (memRead_accessed h) nofun

theorem memRead2_keepsRom {w : Word} (h : memRead2 a s = .ok (w, t)) : KeepsRom s t :=
  .of_accessed (memRead2_accessed h) nofun

/-- A write to ROM or EEPROM is refused, so one that answers stores elsewhere (D7, log 18). -/
theorem memWrite_keepsRom (h : memWrite u a v s = .ok t) : KeepsRom s t := by
  refine .of_accessed (memWrite_accessed h) fun b hb => ?_
  obtain rfl := List.mem_singleton.1 hb
  obtain ⟨-, -, hrom, heeprom⟩ | ⟨-, hsfr, -⟩ := memWrite_ok h
  · exact not_or.2 ⟨hrom, heeprom⟩
  · simp [hsfr]

theorem memWrite2_keepsRom {w : Word} (h : memWrite2 a w s = .ok t) : KeepsRom s t := by
  obtain ⟨s1, hlo, hhi⟩ := memWrite2_ok h
  exact (memWrite_keepsRom hlo).trans (memWrite_keepsRom hhi)

theorem Access.run_keepsRom {g : Access} (hq : g.Quiet) (h : g.run u ea s = .ok t) :
    KeepsRom s t := by
  cases g with
  | load fin =>
    obtain ⟨⟨v, s1⟩, hread, h⟩ := res_bind_ok.1 h
    cases h
    exact (memRead_keepsRom hread).trans (.of_same (hq _ _))
  | store val fin =>
    obtain ⟨s1, hwrite, h⟩ := res_bind_ok.1 h
    cases h
    exact (memWrite_keepsRom hwrite).trans (.of_same (hq _))
  | modify val fin =>
    obtain ⟨⟨v, s1⟩, hread, h⟩ := res_bind_ok.1 h
    obtain ⟨s2, hwrite, h⟩ := res_bind_ok.1 h
    cases h
    exact ((memRead_keepsRom hread).trans (memWrite_keepsRom hwrite)).trans (.of_same (hq _ _ _))
  | loadWord fin =>
    obtain ⟨⟨w, s1⟩, hread, h⟩ := res_bind_ok.1 h
    cases h
    exact (memRead2_keepsRom hread).trans (.of_same (hq _ _))
  | storeWord val fin =>
    obtain ⟨s1, hwrite, h⟩ := res_bind_ok.1 h
    cases h
    exact (memWrite2_keepsRom hwrite).trans (.of_same (hq _))

/-! ### ROM and EEPROM through the stack, PSW and the platform -/

theorem push8_keepsRom (h : push8 v s = .ok t) : KeepsRom s t :=
  KeepsRom.trans (t := s.setSp (s.sp - 1#16)) (.of_same ⟨rfl, rfl⟩)
    (memWrite_keepsRom (push8_ok h).2)

theorem push16_keepsRom {w : Word} (h : push16 w s = .ok t) : KeepsRom s t := by
  obtain ⟨s1, hhi, hlo⟩ := push16_ok h
  exact (push8_keepsRom hhi).trans (push8_keepsRom hlo)

theorem pop8_keepsRom (h : pop8 s = .ok (v, t)) : KeepsRom s t :=
  KeepsRom.trans (t := s.setSp (s.sp + 1#16)) (.of_same ⟨rfl, rfl⟩)
    (.of_accessed (pop8_accessed h) nofun)

theorem pop16_keepsRom {w : Word} (h : pop16 s = .ok (w, t)) : KeepsRom s t := by
  obtain ⟨lo, hi, s1, hlo, hhi, -⟩ := pop16_ok h
  exact (pop8_keepsRom hlo).trans (pop8_keepsRom hhi)

theorem pswRead_keepsRom (s : State) : KeepsRom s (pswRead s).2 :=
  .of_accessed (pswRead_accessed s) nofun

theorem pswWrite_sameMemory (v : Byte) (s : State) : SameMemory s (pswWrite v s) := by
  obtain ⟨p, n, h⟩ := pswWrite_eq v s
  rw [h]
  exact ⟨rfl, rfl⟩

theorem interruptReturn_keepsRom (h : interruptReturn s = .ok t) : KeepsRom s t := by
  obtain ⟨target, s1, p, s2, hpop16, hpop8, rfl⟩ := interruptReturn_ok h
  exact ((pop16_keepsRom hpop16).trans (pop8_keepsRom hpop8)).trans
    (.of_same (pswWrite_sameMemory p s2))

theorem acknowledge_keepsRom {vec : Word} {nmi keep : Bool}
    (h : acknowledge vec nmi keep s = .ok t) : KeepsRom s t := by
  obtain ⟨s1, s2, target, s3, hpsw, hpc, hread, rfl⟩ := acknowledge_ok h
  have pushed := ((pswRead_keepsRom s).trans (push8_keepsRom hpsw)).trans (push16_keepsRom hpc)
  have entered : KeepsRom s2 { s2.setFlag .ie false with nmis := s2.nmis || nmi } :=
    .of_same ⟨rfl, rfl⟩
  have vectored : KeepsRom s3 { s3 with
      pc := target, mode := .run, intc := acknowledged vec keep s3.intc } := .of_same ⟨rfl, rfl⟩
  exact ((pushed.trans entered).trans (memRead2_keepsRom hread)).trans vectored

/-- Bytes put at other addresses leave an address alone. -/
theorem memGet_foldl_memPut {l : List Host.Cell} {k : Nat} (hl : ∀ c ∈ l, c.1 ≠ k) :
    ∀ m, memGet (l.foldl (fun m c => memPut m c.1 c.2) m) k = memGet m k := by
  induction l with
  | nil => exact fun m => rfl
  | cons c l ih =>
    obtain ⟨hc, hl⟩ := List.forall_mem_cons.1 hl
    exact fun m => (ih hl _).trans (memGet_memPut_ne m c.2 hc.symm)

/-- The platform changes storage registers only (60_exceptions.md R361). -/
theorem applyInput_keepsRom (inp : PlatformInput) (s : State) : KeepsRom s (applyInput inp s) := by
  refine ⟨rfl, fun a ha => memGet_foldl_memPut (fun c hc hca => ?_) s.mem⟩
  have hstorage := (List.mem_filter.1 hc).2
  simp only [List.any_eq_true, Bool.and_eq_true, beq_iff_eq] at hstorage
  obtain ⟨e, -, ⟨he, -⟩, hsfr⟩ := hstorage
  obtain rfl : e.addr = a := BitVec.eq_of_toNat_eq (he.trans hca)
  simp [hsfr] at ha

theorem boundaryState_keepsRom (s : State) : KeepsRom s (boundaryState s) := by
  unfold boundaryState
  split
  next => exact .refl s
  next inp rest _ =>
    exact KeepsRom.trans (t := { s with inputs := rest }) (.of_same ⟨rfl, rfl⟩)
      (applyInput_keepsRom inp _)

/-- RESET drops the bytes of other regions only (70_reset_and_hazards.md R370). -/
theorem resetInput_keepsRom (h : resetInput s = .ok t) : KeepsRom s t := by
  obtain ⟨target, s1, hread, rfl⟩ := resetInput_ok h
  have kept : KeepsRom s { s with mem := s.mem.filter (keptByReset s.prod), stored := [] } :=
    ⟨rfl, fun a ha => (memGet_filter_keptByReset s.prod s.mem a).trans (if_pos ha)⟩
  have read := kept.trans (memRead2_keepsRom hread)
  exact ⟨read.prod, read.mem⟩

/-! ### ROM and EEPROM through an instruction and a step -/

theorem exec_keepsRom_of_memOperand (hm : memOperand i = some (f, u, reads))
    (h : exec i s = .next t) : KeepsRom s t := by
  obtain ⟨g, hexec, -, hq⟩ := accesses_of_memOperand hm
  rw [hexec] at h
  obtain ⟨ea, -, hrun⟩ := res_bind_ok.1 (toOutcome_eq_next.1 h)
  exact g.run_keepsRom hq hrun

/-- An instruction without a memory operand writes memory on the stack or not at all. -/
theorem exec_keepsRom_of_no_memOperand (hm : memOperand i = none) (h : exec i s = .next t) :
    KeepsRom s t := by
  cases i with
  -- the stack
  | callAddr16 addr =>
    obtain ⟨s1, hpush, h⟩ := res_bind_ok.1 (toOutcome_eq_next.1 h)
    cases h
    exact (push16_keepsRom hpush).trans (.of_same ⟨rfl, rfl⟩)
  | callt k =>
    obtain ⟨⟨q, s1⟩, hread, h⟩ := res_bind_ok.1 (toOutcome_eq_next.1 h)
    obtain ⟨s2, hpush, h⟩ := res_bind_ok.1 h
    cases h
    exact ((memRead2_keepsRom hread).trans (push16_keepsRom hpush)).trans (.of_same ⟨rfl, rfl⟩)
  | ret =>
    obtain ⟨⟨q, s1⟩, hpop, h⟩ := res_bind_ok.1 (toOutcome_eq_next.1 h)
    cases h
    exact (pop16_keepsRom hpop).trans (.of_same ⟨rfl, rfl⟩)
  | reti => exact interruptReturn_keepsRom (toOutcome_eq_next.1 h)
  | pushPsw =>
    obtain ⟨s1, hpush, h⟩ := res_bind_ok.1 (toOutcome_eq_next.1 h)
    cases h
    exact ((pswRead_keepsRom s).trans (push8_keepsRom hpush)).trans (.of_same ⟨rfl, rfl⟩)
  | pushRp rp =>
    obtain ⟨s1, hpush, h⟩ := res_bind_ok.1 (toOutcome_eq_next.1 h)
    cases h
    exact (push16_keepsRom hpush).trans (.of_same ⟨rfl, rfl⟩)
  | popPsw =>
    obtain ⟨⟨p, s1⟩, hpop, h⟩ := res_bind_ok.1 (toOutcome_eq_next.1 h)
    cases h
    exact (pop8_keepsRom hpop).trans (.of_same (pswWrite_sameMemory p s1))
  | popRp rp =>
    obtain ⟨⟨w, s1⟩, hpop, h⟩ := res_bind_ok.1 (toOutcome_eq_next.1 h)
    cases h
    exact (pop16_keepsRom hpop).trans (.of_same ⟨rfl, rfl⟩)
  -- PSW
  | movPswByte data => cases h; exact .of_same (pswWrite_sameMemory data s)
  | movPswA => cases h; exact .of_same (pswWrite_sameMemory _ s)
  | movAPsw => cases h; exact (pswRead_keepsRom s).trans (.of_same ⟨rfl, rfl⟩)
  | set1Psw b | clr1Psw b | btPsw b jd | bfPsw b jd =>
    obtain ⟨g, -, h⟩ := res_bind_ok.1 (toOutcome_eq_next.1 h)
    cases h
    exact .of_same ⟨rfl, rfl⟩
  -- registers, flags, PC and mode
  | movRByte | movAR | movRA | xchAX | xchAR | movwRpWord | movwAxRp | movwRpAx | xchwAxRp
  | movwSpAx | movwAxSp | addwAxWord | subwAxWord | cmpwAxWord | incR | decR | incwRp | decwRp
  | ror | rol | rorc | rolc | set1A | clr1A | set1Cy | clr1Cy | not1Cy | brAddr16 | brRel | brAx
  | bc | bnc | bz | bnz | btA | bfA | dbnzB | dbnzC | nop | ei | di | halt | stop
  | addAByte | addcAByte | subAByte | subcAByte | andAByte | orAByte | xorAByte | cmpAByte
  | addAR | addcAR | subAR | subcAR | andAR | orAR | xorAR | cmpAR =>
    cases h
    exact .of_same ⟨rfl, rfl⟩
  | _ => cases hm

theorem exec_keepsRom (h : exec i s = .next t) : KeepsRom s t := by
  cases hm : memOperand i with
  | none => exact exec_keepsRom_of_no_memOperand hm h
  | some p => exact exec_keepsRom_of_memOperand hm h

/-- Settles O58, one branch of the step at a time. -/
theorem romKept : Obligations.RomKept := by
  intro s t h
  have kept : KeepsRom s t := by
    obtain ⟨inp, rest, -, -, u, hu, rfl⟩ | h := step_next h
    · have taken : KeepsRom s { s with inputs := rest } := .of_same ⟨rfl, rfl⟩
      exact (taken.trans (resetInput_keepsRom hu)).trans (applyInput_keepsRom inp u)
    · refine (boundaryState_keepsRom s).trans ?_
      obtain rfl | rfl | ⟨v, nmi, -, hack⟩ | ⟨-, i, -, hexec⟩ := cycle_next h
      · exact .refl _
      · exact .of_same ⟨rfl, rfl⟩
      · exact acknowledge_keepsRom hack
      · exact exec_keepsRom hexec
  exact ⟨kept.prod, kept.mem⟩

/-! ### Where an access stops (20_memory.md R84, 60_exceptions.md R341) -/

/-- A bind goes on with what its first part answers. -/
theorem res_bind_of_ok {α β : Type} {x : Res α} {y : α} (h : x = .ok y) (k : α → Res β) :
    (x >>= k) = k y := by
  rw [h]; rfl

theorem Access.run_of_read_error {g : Access} {back : Bool} (hf : g.Fits u true back)
    (h : memRead u ea s = .error e) : g.run u ea s = .error e := by
  cases g with
  | load fin | modify val fin => exact res_bind_error h
  | loadWord fin =>
    obtain ⟨rfl, -⟩ := hf
    exact res_bind_error (res_bind_error h)
  | store val fin => cases hf.1
  | storeWord val fin => cases hf.2.1

theorem Access.run_of_not_writable {g : Access} {back : Bool} (hf : g.Fits u false back)
    (h : ¬Writable u s.prod ea) :
    ∃ r, (∀ w, memWrite u ea w s = .error (.refused r)) ∧ g.run u ea s = .error (.refused r) := by
  obtain ⟨r, hr⟩ := memWrite_refused_of_not_writable h
  refine ⟨r, fun w => hr w s rfl, ?_⟩
  cases g with
  | store val fin => exact res_bind_error (hr _ s rfl)
  | storeWord val fin =>
    obtain ⟨rfl, -⟩ := hf
    exact res_bind_error (res_bind_error (hr _ s rfl))
  | load fin | modify val fin => cases hf.1
  | loadWord fin => cases hf.2.1

theorem Access.run_of_back_not_writable {g : Access} (hf : g.Fits u reads true)
    (hread : memRead u ea s = .ok (v, s1)) (h : ¬Writable u s.prod ea) :
    ∃ r, (∀ w, memWrite u ea w s1 = .error (.refused r)) ∧ g.run u ea s = .error (.refused r) := by
  obtain ⟨r, hr⟩ := memWrite_refused_of_not_writable h
  have hprod := (memRead_accessed hread).prod
  refine ⟨r, fun w => hr w s1 hprod, ?_⟩
  cases g with
  | modify val fin => exact (res_bind_of_ok hread _).trans (res_bind_error (hr _ s1 hprod))
  | load fin | store val fin => cases hf.2
  | loadWord fin | storeWord val fin => cases hf.2.2

/-- `MOVW AX, saddrp` stops with its second byte. -/
theorem memRead2_of_second_error {lo : Byte} (hlo : memRead .word a s = .ok (lo, s1))
    (hhi : memRead .word (a + 1#16) s1 = .error e) : memRead2 a s = .error e :=
  (res_bind_of_ok hlo _).trans (res_bind_error hhi)

/-- `MOVW saddrp, AX` stops with its second byte. -/
theorem memWrite2_of_second_error {w : Word} (hlo : memWrite .word a (loByte w) s = .ok s1)
    (hhi : memWrite .word (a + 1#16) (hiByte w) s1 = .error e) : memWrite2 a w s = .error e :=
  (res_bind_of_ok hlo _).trans hhi

/-- Settles O41: each access stops where its first access to memory does. -/
theorem memoryOperandStops : Obligations.MemoryOperandStops := by
  refine ⟨fun i f u reads s e hm => ?_, fun so s s1 ea hea => ⟨fun lo e hlo hhi => ?_,
    fun hlo hw => ?_⟩⟩
  · obtain ⟨g, hexec, hf, -⟩ := accesses_of_memOperand hm
    simp only [hexec]
    refine ⟨fun hea => congrArg toOutcome (res_bind_error hea), fun ea hea => ?_⟩
    rw [res_bind_of_ok hea]
    refine ⟨fun hreads he => ?_, fun hreads hw => ?_, fun v s1 hback hread hw => ?_⟩
    · rw [hreads] at hf
      exact congrArg toOutcome (g.run_of_read_error hf he)
    · rw [hreads] at hf
      obtain ⟨r, hr, hstop⟩ := g.run_of_not_writable hf hw
      exact ⟨r, hr, congrArg toOutcome hstop⟩
    · rw [hback] at hf
      obtain ⟨r, hr, hstop⟩ := g.run_of_back_not_writable hf hread hw
      exact ⟨r, hr, congrArg toOutcome hstop⟩
  · have hstop := memRead2_of_second_error hlo hhi
    exact congrArg toOutcome ((res_bind_of_ok hea _).trans (res_bind_error hstop))
  · obtain ⟨r, hr⟩ := memWrite_refused_of_not_writable hw
    have hprod := (memWrite_accessed hlo).prod
    have hstop : memWrite2 ea (s.pair .ax) s = .error (.refused r) :=
      memWrite2_of_second_error ((congrArg (memWrite .word ea · s) (loByte_join ..)).trans hlo)
        (hr _ s1 hprod)
    have hexec : exec (.movwSaddrpAx so) s = toOutcome (.error (.refused r)) :=
      congrArg toOutcome ((res_bind_of_ok hea _).trans (res_bind_error hstop))
    exact ⟨r, fun w => hr w s1 hprod, hexec⟩

/-! ### Jumps, relative branches, calls (20_memory.md R90, R92, R93, R94) -/

/-- Settles O36. -/
theorem jumps : Obligations.Jumps := by
  intro s lo hi
  simp only [← join_eq_ofNat]
  exact ⟨fun _ => rfl, fun _ => rfl, rfl, rfl⟩

/-- Settles O37. -/
theorem relativeBranches : Obligations.RelativeBranches := by
  intro s b jd
  simp only [← branchIf_eq]
  refine ⟨rfl, rfl, rfl, rfl, rfl, ?_, ?_⟩
  · exact congrArg (fun k => Host.Outcome.next (s.branchIf k 3 jd)) (beq_true _)
  · exact congrArg (fun k => Host.Outcome.next (s.branchIf k 3 jd)) (beq_false _)

/-- A return address pushed: where its bytes go, and all that changes. -/
theorem push16_of_room (w : Word) (hroom : PushRoom s 2) :
    ∃ m st, push16 w s = .ok { s with sp := s.sp - 2#16, mem := m, stored := st } ∧
      Wrote s m [(s.sp - 1#16, hiByte w), (s.sp - 2#16, loByte w)] ∧
      Noted s st [s.sp - 1#16, s.sp - 2#16] := by
  obtain ⟨m, st, hpush, hwrote, hnoted⟩ :=
    pushBytes_of_room (l := [hiByte w, loByte w]) hroom (by simp)
  rw [← push16_eq_pushBytes] at hpush
  rw [slots_two] at hwrote hnoted
  exact ⟨m, st, hpush, hwrote, hnoted⟩

/-- The address after an instruction, its bytes in numbers (10_state.md R24). -/
theorem next_bytes (s : State) (n : Nat) :
    hiByte (s.next n) = BitVec.ofNat 8 ((s.pc.toNat + n) % 65536 / 256) ∧
      loByte (s.next n) = BitVec.ofNat 8 (s.pc.toNat + n) := by
  have hnext : (s.next n).toNat = (s.pc.toNat + n) % 65536 := by
    simp [State.next, BitVec.toNat_add]
  refine ⟨by rw [hiByte_eq_ofNat, hnext], BitVec.eq_of_toNat_eq ?_⟩
  rw [loByte_toNat, hnext, BitVec.toNat_ofNat]
  omega

/-- A byte read, of memory or of a device register, changes the counter of free values at most. -/
theorem memRead_eq_draws (h : memRead u a s = .ok (v, t)) : t = { s with draws := t.draws } := by
  obtain ⟨rfl, -⟩ | ⟨rfl, -⟩ := memRead_ok h <;> rfl

theorem memRead2_eq_draws {w : Word} (h : memRead2 a s = .ok (w, t)) :
    t = { s with draws := t.draws } := by
  obtain ⟨lo, hi, s1, hlo, hhi, -⟩ := memRead2_ok h
  exact (memRead_eq_draws hhi).trans (by rw [memRead_eq_draws hlo])

/-- Settles O32: the table entry is read before the return address is pushed. -/
theorem calls : Obligations.Calls := by
  intro s s1 addr target k hroom
  rw [← calltEntry_eq_ofNat]
  simp only [← (next_bytes s _).1, ← (next_bytes s _).2]
  refine ⟨?_, fun hread => ?_⟩
  · obtain ⟨m, st, hpush, hwrote, hnoted⟩ := push16_of_room (s.next 3) hroom
    exact ⟨m, st, hwrote, hnoted, toOutcome_eq_next.2 (res_bind_ok.2 ⟨_, hpush, rfl⟩)⟩
  · have hs1 := memRead2_eq_draws hread
    generalize s1.draws = n at hs1
    subst hs1
    obtain ⟨m, st, hpush, hwrote, hnoted⟩ :=
      push16_of_room (s := { s with draws := n }) (s.next 1) hroom
    exact ⟨rfl, m, st, hwrote, hnoted, toOutcome_eq_next.2 (res_bind_ok.2 ⟨_, hread,
      res_bind_ok.2 ⟨_, hpush, rfl⟩⟩)⟩

/-! ### Unassigned codes (30_encoding.md R122 to R124) -/

/-- The answer calls no code unassigned. -/
def Assigned {α : Type} (d : Except DecodeError α) : Prop :=
  ∀ b, d ≠ .error (.unassignedFirst b) ∧ d ≠ .error (.unassignedSecond b)

section
variable {α : Type} {x : Except DecodeError Instr} {k : Byte → Except DecodeError Instr}
  {l : Byte → Byte → Except DecodeError Instr}

@[simp] theorem assigned_ok (r : α) : Assigned (.ok r : Except DecodeError α) :=
  fun _ => ⟨nofun, nofun⟩

@[simp] theorem assigned_truncated : Assigned (.error .truncated : Except DecodeError α) :=
  fun _ => ⟨nofun, nofun⟩

@[simp] theorem assigned_ite {c : Prop} [Decidable c] {d d' : Except DecodeError α}
    (h : Assigned d) (h' : Assigned d') : Assigned (if c then d else d') := by
  split
  next => exact h
  next => exact h'

@[simp] theorem assigned_map (g : Instr → α) (h : Assigned x) : Assigned (x.map g) := by
  cases x with
  | ok r => exact assigned_ok _
  | error e =>
    exact fun b => ⟨fun he => (h b).1 (by cases he; rfl), fun he => (h b).2 (by cases he; rfl)⟩

@[simp] theorem assigned_checkSaddr (so : Byte) (i : Instr) : Assigned (checkSaddr so i) :=
  assigned_ite (assigned_ok i) fun _ => ⟨nofun, nofun⟩

@[simp] theorem assigned_checkSaddrp (so : Byte) (i : Instr) : Assigned (checkSaddrp so i) :=
  assigned_ite (assigned_ok i) (assigned_ite (fun _ => ⟨nofun, nofun⟩) fun _ => ⟨nofun, nofun⟩)

@[simp] theorem assigned_checkSfr (fo : Byte) (i : Instr) : Assigned (checkSfr fo i) :=
  assigned_ite (assigned_ok i) (assigned_ite (fun _ => ⟨nofun, nofun⟩) fun _ => ⟨nofun, nofun⟩)

@[simp] theorem assigned_decodeSet1Saddr (b : BitVec 3) (so : Byte) :
    Assigned (decodeSet1Saddr b so) := assigned_ite (assigned_ok _) (assigned_checkSaddr _ _)

@[simp] theorem assigned_decodeClr1Saddr (b : BitVec 3) (so : Byte) :
    Assigned (decodeClr1Saddr b so) := assigned_ite (assigned_ok _) (assigned_checkSaddr _ _)

@[simp] theorem assigned_decodeBtSaddr (b : BitVec 3) (so jd : Byte) :
    Assigned (decodeBtSaddr b so jd) := assigned_ite (assigned_ok _) (assigned_checkSaddr _ _)

@[simp] theorem assigned_decodeBfSaddr (b : BitVec 3) (so jd : Byte) :
    Assigned (decodeBfSaddr b so jd) := assigned_ite (assigned_ok _) (assigned_checkSaddr _ _)

@[simp] theorem assigned_form0 (i : Instr) (rest : List Byte) : Assigned (form0 i rest) :=
  assigned_ok _

@[simp] theorem assigned_form1 (h : ∀ b, Assigned (k b)) (rest : List Byte) :
    Assigned (form1 k rest) := by
  cases rest with
  | nil => exact assigned_truncated
  | cons b rest => exact assigned_map _ (h b)

@[simp] theorem assigned_form2 (h : ∀ b c, Assigned (l b c)) (rest : List Byte) :
    Assigned (form2 l rest) := by
  match rest with
  | [] | [_] => exact assigned_truncated
  | b :: c :: rest => exact assigned_map _ (h b c)

end

/-- Whether a first byte is assigned does not depend on what follows it. -/
theorem decodeFirst_assigned_or (b : Byte) (rest rest' : List Byte) :
    Assigned (decodeFirst b rest) ∨
      decodeFirst b rest = .error (.unassignedFirst b) ∧
        decodeFirst b rest' = .error (.unassignedFirst b) := by
  unfold decodeFirst
  split
  on_goal -1 => exact .inr ⟨rfl, rfl⟩
  all_goals exact .inl (by simp)

theorem unlessReg_assigned_or (b : Byte) (excluded : Bool) (i : Instr) (rest rest' : List Byte) :
    Assigned (unlessReg b excluded i rest) ∨
      unlessReg b excluded i rest = .error (.unassignedSecond b) ∧
        unlessReg b excluded i rest' = .error (.unassignedSecond b) := by
  cases excluded with
  | true => exact .inr ⟨rfl, rfl⟩
  | false => exact .inl (assigned_form0 i rest)

theorem decodeRegForm_assigned_or (b : Byte) (r : Reg) (rest rest' : List Byte) :
    Assigned (decodeRegForm b r rest) ∨
      decodeRegForm b r rest = .error (.unassignedSecond b) ∧
        decodeRegForm b r rest' = .error (.unassignedSecond b) := by
  unfold decodeRegForm
  split
  case h_1 | h_3 | h_13 => exact unlessReg_assigned_or ..
  on_goal -1 => exact .inr ⟨rfl, rfl⟩
  all_goals exact .inl (by simp)

theorem decodeBitForm_assigned_or (b : Byte) (t : Bool) (k : BitVec 3) (rest rest' : List Byte) :
    Assigned (decodeBitForm b t k rest) ∨
      decodeBitForm b t k rest = .error (.unassignedSecond b) ∧
        decodeBitForm b t k rest' = .error (.unassignedSecond b) := by
  unfold decodeBitForm
  split
  on_goal -1 => exact .inr ⟨rfl, rfl⟩
  all_goals exact .inl (by simp)

/-- Whether a second byte after 0AH is assigned does not depend on what follows it. -/
theorem decodeSecond_assigned_or (b : Byte) (rest rest' : List Byte) :
    Assigned (decodeSecond b rest) ∨
      decodeSecond b rest = .error (.unassignedSecond b) ∧
        decodeSecond b rest' = .error (.unassignedSecond b) := by
  unfold decodeSecond
  split
  next => exact decodeRegForm_assigned_or ..
  next => exact decodeBitForm_assigned_or ..

/-- So whether a first byte is called unassigned can be looked up without what follows it. -/
theorem decode_unassignedFirst (b : Byte) {rest rest' : List Byte} :
    decode (b :: rest) = .error (.unassignedFirst b) →
      decode (b :: rest') = .error (.unassignedFirst b) := by
  simp only [decode]
  split_ifs with h0A hcallt
  · cases rest with
    | nil => nofun
    | cons b2 rest =>
      obtain hassigned | ⟨he, -⟩ := decodeSecond_assigned_or b2 rest rest
      · exact fun he => absurd he (hassigned b).1
      · simp only [he]
        nofun
  · exact nofun
  · obtain hassigned | ⟨-, he⟩ := decodeFirst_assigned_or b rest rest'
    · exact fun he => absurd he (hassigned b).1
    · exact fun _ => he

theorem decode_unassignedSecond (b : Byte) {rest rest' : List Byte} :
    decode (0x0A#8 :: b :: rest) = .error (.unassignedSecond b) →
      decode (0x0A#8 :: b :: rest') = .error (.unassignedSecond b) := by
  obtain hassigned | ⟨-, he⟩ := decodeSecond_assigned_or b rest rest'
  · exact fun he => absurd he (hassigned b).2
  · exact fun _ => he

/-- The list of R122, byte by byte. -/
theorem unassignedFirst_table : ∀ b : Byte,
    decode [b] = .error (.unassignedFirst b) ↔ b.toNat ∈ unassignedFirstBytes := by
  decide

/-- The list of R123, byte by byte. -/
theorem unassignedSecond_table : ∀ b : Byte,
    decode [0x0A#8, b] = .error (.unassignedSecond b) ↔ b.toNat ∈ unassignedSecondBytes := by
  decide

/-! ### A step at a code the decoder refuses (30_encoding.md R124 to R126) -/

/-- These bytes can be fetched from the address up. -/
def FetchedAt (s : State) (a : Word) (l : List Byte) : Prop :=
  ∀ k, (h : k < l.length) → fetchByte (a + BitVec.ofNat 16 k) s = .ok l[k]

theorem add_ofNat_succ (a : Word) (k : Nat) :
    a + BitVec.ofNat 16 (k + 1) = a + 1#16 + BitVec.ofNat 16 k := by
  rw [BitVec.ofNat_add]
  bv_omega

theorem fetchedAt_cons {b : Byte} {l : List Byte} (hb : fetchByte a s = .ok b)
    (hl : FetchedAt s (a + 1#16) l) : FetchedAt s a (b :: l) := by
  intro k hk
  cases k with
  | zero => simpa using hb
  | succ k =>
    rw [add_ofNat_succ]
    exact hl k (Nat.lt_of_succ_lt_succ hk)

theorem fetchedAt_tail {b : Byte} {l : List Byte} (h : FetchedAt s a (b :: l)) :
    fetchByte a s = .ok b ∧ FetchedAt s (a + 1#16) l := by
  refine ⟨by simpa using h 0 (Nat.succ_pos _), fun k hk => ?_⟩
  rw [← add_ofNat_succ]
  exact h (k + 1) (Nat.succ_lt_succ hk)

/-- A fetch of at least as many bytes begins with them. -/
theorem fetchBytes_of_fetchedAt {l : List Byte} : ∀ {n : Nat} {a : Word}, l.length ≤ n →
    FetchedAt s a l → ∃ rest stop, fetchBytes n a s = (l ++ rest, stop) := by
  induction l with
  | nil => exact fun _ _ => ⟨_, _, rfl⟩
  | cons b l ih =>
    intro n a hn h
    obtain ⟨m, rfl⟩ := Nat.exists_eq_succ_of_ne_zero (Nat.ne_zero_of_lt hn)
    obtain ⟨hb, hl⟩ := fetchedAt_tail h
    obtain ⟨rest, stop, hfetch⟩ := ih (Nat.le_of_succ_le_succ hn) hl
    exact ⟨rest, stop, by simp [fetchBytes, hb, hfetch]⟩

theorem executeNext_of_error (h : fetchInstr s = .error e) :
    executeNext s = toOutcome (.error e) := by
  cases e <;> simp only [executeNext, h] <;> rfl

/-- With a quiet platform a step in run mode is the instruction at the PC. -/
theorem step_of_quiet (hm : s.mode = .run) (hin : s.inputs = []) : step s = executeNext s := by
  rw [step_of_not_reset (by simp [hin])]
  have hb : boundaryState s = s := by simp [boundaryState, hin]
  have hq : stepInput s = .quiet := by simp [stepInput, hin]
  rw [hb, hq]
  refine cycle_of_execute hm ?_
  simp [canAcknowledge, offered, PlatformInput.quiet]

/-- A step at bytes that the decoder refuses, whatever follows them, is refused. -/
theorem step_of_decode_error {l : List Byte} {d : DecodeError} (hm : s.mode = .run)
    (hin : s.inputs = []) (hl : l.length ≤ 4) (hf : FetchedAt s s.pc l)
    (hd : ∀ rest, decode (l ++ rest) = .error d) (he : ∀ stop, decodeRefusal d stop = e) :
    step s = toOutcome (.error e) := by
  obtain ⟨rest, stop, hfetch⟩ := fetchBytes_of_fetchedAt hl hf
  rw [step_of_quiet hm hin]
  exact executeNext_of_error (by simp [fetchInstr, hfetch, hd, he])

/-! ### Codes with a refused offset (30_encoding.md R125, 20_memory.md R97) -/

/-- The decoder refuses the bytes of `i`, and the machine names that refusal `e`. -/
def RefusedCode (i : Instr) (e : Stop) : Prop :=
  ∃ d, (∀ rest, decode (encode i ++ rest) = .error d) ∧ ∀ stop, decodeRefusal d stop = e

/-- The decoder and the operand address function refuse the same Saddr-offsets. -/
theorem checkSaddr_of_refused {so : Byte} (he : eaSaddr so = .error e) :
    ∃ d, (∀ i, checkSaddr so i = .error d) ∧ ∀ stop, decodeRefusal d stop = e := by
  cases hok : saddrOk so with
  | true => simp [eaSaddr, hok] at he
  | false =>
    simp only [eaSaddr, hok, refuse] at he
    cases he
    exact ⟨.pswSpOffset so, fun i => by simp [checkSaddr, hok], fun _ => rfl⟩

theorem checkSaddrp_of_refused {so : Byte} (he : eaSaddrp so = .error e) :
    ∃ d, (∀ i, checkSaddrp so i = .error d) ∧ ∀ stop, decodeRefusal d stop = e := by
  cases hodd : so.getLsbD 0 with
  | true =>
    simp only [eaSaddrp, hodd, refuse] at he
    cases he
    exact ⟨.oddSaddrp so, fun i => by simp [checkSaddrp, saddrpOk, hodd], fun _ => rfl⟩
  | false =>
    cases hok : saddrpOk so with
    | true =>
      simp only [eaSaddrp, hodd, hok] at he
      cases he
    | false =>
      simp only [eaSaddrp, hodd, hok, refuse] at he
      cases he
      exact ⟨.pswSpOffset so, fun i => by simp only [checkSaddrp, hodd, hok]; rfl, fun _ => rfl⟩

theorem checkSfr_of_refused {fo : Byte} (he : eaSfr fo = .error e) :
    ∃ d, (∀ i, checkSfr fo i = .error d) ∧ ∀ stop, decodeRefusal d stop = e := by
  cases hgap : decide (0xD0#8 ≤ fo) && decide (fo ≤ 0xDF#8) with
  | true =>
    simp only [eaSfr, hgap, refuse] at he
    cases he
    exact ⟨.sfrOffset fo, fun i => by simp only [checkSfr, sfrOk, hgap]; rfl, fun _ => rfl⟩
  | false =>
    cases hok : sfrOk fo with
    | true => simp [eaSfr, hgap, hok] at he
    | false =>
      simp only [eaSfr, hgap, hok, refuse] at he
      cases he
      exact ⟨.pswSpOffset fo, fun i => by simp only [checkSfr, hok, hgap]; rfl, fun _ => rfl⟩

theorem refusedCode_saddr {so : Byte} (he : eaSaddr so = .error e)
    (hd : ∀ rest, decode (encode i ++ rest) = (checkSaddr so i).map fun j => (j, rest) := by
      exact fun _ => rfl) : RefusedCode i e := by
  obtain ⟨d, hcheck, hstop⟩ := checkSaddr_of_refused he
  exact ⟨d, fun rest => by rw [hd, hcheck]; rfl, hstop⟩

/-- A code that is a PSW form at offset 1EH (R125) is refused like the others elsewhere. -/
theorem refusedCode_saddr_of_ne {so : Byte} {j : Instr} (he : eaSaddr so = .error e)
    (hne : so ≠ 0x1E#8)
    (hd : ∀ rest, decode (encode i ++ rest) =
        (if so = 0x1E#8 then .ok j else checkSaddr so i).map fun j => (j, rest) := by
      exact fun _ => rfl) : RefusedCode i e :=
  refusedCode_saddr he fun rest => by rw [hd, if_neg hne]

theorem refusedCode_sfr {fo : Byte} (he : eaSfr fo = .error e)
    (hd : ∀ rest, decode (encode i ++ rest) = (checkSfr fo i).map fun j => (j, rest) := by
      exact fun _ => rfl) : RefusedCode i e := by
  obtain ⟨d, hcheck, hstop⟩ := checkSfr_of_refused he
  exact ⟨d, fun rest => by rw [hd, hcheck]; rfl, hstop⟩

/-- A code that is an SP form at offset 1CH (R125) is refused elsewhere. -/
theorem refusedCode_saddrp_of_ne {so : Byte} {j : Instr} (he : eaSaddrp so = .error e)
    (hne : so ≠ 0x1C#8)
    (hd : ∀ rest, decode (encode i ++ rest) =
        (if so = 0x1C#8 then .ok j else checkSaddrp so i).map fun j => (j, rest) := by
      exact fun _ => rfl) : RefusedCode i e := by
  obtain ⟨d, hcheck, hstop⟩ := checkSaddrp_of_refused he
  exact ⟨d, fun rest => by rw [hd, if_neg hne, hcheck]; rfl, hstop⟩

/-! The second byte `t B2 B1 B0 ssss` of the bit forms (30_encoding.md R112, R114). -/

theorem bitByte_toNat (t : Bool) (b : BitVec 3) {low : Nat} (hlow : low < 16) :
    (bitByte t b low).toNat = (if t then 128 else 0) + 16 * b.toNat + low := by
  have hb := b.isLt
  rw [bitByte, BitVec.toNat_ofNat, Nat.mod_eq_of_lt]
  split <;> omega

theorem decodeSecond_bitByte (t : Bool) (b : BitVec 3) {low : Nat} (hlow : low < 16)
    (heven : low % 2 = 0) (rest : List Byte) :
    (bitByte t b low).toNat % 16 = low ∧
      decodeSecond (bitByte t b low) rest = decodeBitForm (bitByte t b low) t b rest := by
  have hb := b.isLt
  have hn := bitByte_toNat t b hlow
  have hodd : ¬(bitByte t b low).toNat % 2 = 1 := by rw [hn]; split <;> omega
  have ht : decide (128 ≤ (bitByte t b low).toNat) = t := by
    rw [hn]
    cases t with
    | true => simp; omega
    | false => simp; omega
  have hbit : BitVec.ofNat 3 ((bitByte t b low).toNat / 16) = b := by
    apply BitVec.eq_of_toNat_eq
    rw [BitVec.toNat_ofNat, hn]
    split <;> omega
  refine ⟨by rw [hn]; split <;> omega, ?_⟩
  rw [decodeSecond, if_neg hodd, ht, hbit]

theorem decode_bit_saddr (t : Bool) (b : BitVec 3) (so : Byte) (rest : List Byte) :
    decode (0x0A#8 :: bitByte t b 0xA :: so :: rest) =
      (if t then decodeClr1Saddr b so else decodeSet1Saddr b so).map fun i => (i, rest) := by
  obtain ⟨hlow, hdec⟩ := decodeSecond_bitByte t b (low := 0xA) (by decide) (by decide) (so :: rest)
  refine hdec.trans ?_
  simp only [decodeBitForm, hlow]
  rfl

theorem decode_bit_sfr (t : Bool) (b : BitVec 3) (fo : Byte) (rest : List Byte) :
    decode (0x0A#8 :: bitByte t b 0x6 :: fo :: rest) =
      (checkSfr fo (if t then .clr1Sfr b fo else .set1Sfr b fo)).map fun i => (i, rest) := by
  obtain ⟨hlow, hdec⟩ := decodeSecond_bitByte t b (low := 0x6) (by decide) (by decide) (fo :: rest)
  refine hdec.trans ?_
  simp only [decodeBitForm, hlow]
  rfl

theorem decode_branch_saddr (t : Bool) (b : BitVec 3) (so jd : Byte) (rest : List Byte) :
    decode (0x0A#8 :: bitByte t b 0x8 :: so :: jd :: rest) =
      (if t then decodeBtSaddr b so jd else decodeBfSaddr b so jd).map fun i => (i, rest) := by
  obtain ⟨hlow, hdec⟩ :=
    decodeSecond_bitByte t b (low := 0x8) (by decide) (by decide) (so :: jd :: rest)
  refine hdec.trans ?_
  simp only [decodeBitForm, hlow]
  rfl

theorem decode_branch_sfr (t : Bool) (b : BitVec 3) (fo jd : Byte) (rest : List Byte) :
    decode (0x0A#8 :: bitByte t b 0x4 :: fo :: jd :: rest) =
      (checkSfr fo (if t then .btSfr b fo jd else .bfSfr b fo jd)).map fun i => (i, rest) := by
  obtain ⟨hlow, hdec⟩ :=
    decodeSecond_bitByte t b (low := 0x4) (by decide) (by decide) (fo :: jd :: rest)
  refine hdec.trans ?_
  simp only [decodeBitForm, hlow]
  rfl

/-- Where the operand address is refused, so is the code, unless it is a PSW or SP form (R125). -/
theorem refusedCode_of_memOperand (hm : memOperand i = some (f, u, reads))
    (he : f.ea s = .error e) (hp : ¬PswSpCode i) : RefusedCode i e := by
  cases i with
  | xchASaddr so | addASaddr so | addcASaddr so | subASaddr so | subcASaddr so | andASaddr so
  | orASaddr so | xorASaddr so | cmpASaddr so | addSaddrByte so data | addcSaddrByte so data
  | subSaddrByte so data | subcSaddrByte so data | andSaddrByte so data | orSaddrByte so data
  | xorSaddrByte so data | cmpSaddrByte so data | incSaddr so | decSaddr so | dbnzSaddr so jd =>
    cases hm
    exact refusedCode_saddr he
  | movSaddrByte so data | movASaddr so | movSaddrA so =>
    cases hm
    exact refusedCode_saddr_of_ne he fun hso => hp (by simp [PswSpCode, hso])
  | set1Saddr b so =>
    cases hm
    exact refusedCode_saddr_of_ne he (fun hso => hp (by simp [PswSpCode, hso]))
      (decode_bit_saddr false b so)
  | clr1Saddr b so =>
    cases hm
    exact refusedCode_saddr_of_ne he (fun hso => hp (by simp [PswSpCode, hso]))
      (decode_bit_saddr true b so)
  | btSaddr b so jd =>
    cases hm
    exact refusedCode_saddr_of_ne he (fun hso => hp (by simp [PswSpCode, hso]))
      (decode_branch_saddr true b so jd)
  | bfSaddr b so jd =>
    cases hm
    exact refusedCode_saddr_of_ne he (fun hso => hp (by simp [PswSpCode, hso]))
      (decode_branch_saddr false b so jd)
  | movwAxSaddrp so | movwSaddrpAx so =>
    cases hm
    exact refusedCode_saddrp_of_ne he fun hso => hp (by simp [PswSpCode, hso])
  | movSfrByte fo data | movASfr fo | movSfrA fo | xchASfr fo => cases hm; exact refusedCode_sfr he
  | set1Sfr b fo => cases hm; exact refusedCode_sfr he (decode_bit_sfr false b fo)
  | clr1Sfr b fo => cases hm; exact refusedCode_sfr he (decode_bit_sfr true b fo)
  | btSfr b fo jd => cases hm; exact refusedCode_sfr he (decode_branch_sfr true b fo jd)
  | bfSfr b fo jd => cases hm; exact refusedCode_sfr he (decode_branch_sfr false b fo jd)
  | _ => cases hm <;> cases he

theorem encode_length_le (i : Instr) : (encode i).length ≤ 4 := by
  cases i <;> simp [encode]

/-- Settles O4. -/
theorem unassignedCodes : Obligations.UnassignedCodes := by
  have hfirst (b : Byte) (rest : List Byte) :
      decode (b :: rest) = .error (.unassignedFirst b) ↔ b.toNat ∈ unassignedFirstBytes :=
    (Iff.intro (decode_unassignedFirst b) (decode_unassignedFirst b)).trans
      (unassignedFirst_table b)
  have hsecond (b : Byte) (rest : List Byte) :
      decode (0x0A#8 :: b :: rest) = .error (.unassignedSecond b) ↔
        b.toNat ∈ unassignedSecondBytes :=
    (Iff.intro (decode_unassignedSecond b) (decode_unassignedSecond b)).trans
      (unassignedSecond_table b)
  refine ⟨hfirst, hsecond, fun s b hm hin => ⟨fun hb hlist => ?_, fun h0A hb hlist => ?_⟩,
    fun s i f u reads e hm hin hop he hp hf => ?_⟩
  · have hf : FetchedAt s s.pc [b] := fetchedAt_cons hb nofun
    exact step_of_decode_error hm hin (by simp) hf (fun rest => (hfirst b rest).2 hlist)
      fun _ => rfl
  · have hf : FetchedAt s s.pc [0x0A#8, b] := fetchedAt_cons h0A (fetchedAt_cons hb nofun)
    exact step_of_decode_error hm hin (by simp) hf (fun rest => (hsecond b rest).2 hlist)
      fun _ => rfl
  · obtain ⟨d, hd, hstop⟩ := refusedCode_of_memOperand hop he hp
    exact step_of_decode_error hm hin (encode_length_le i) hf hd hstop

end Sys2Proof.MemoryRules

/-! The encoding family (30_encoding.md): the decoder answers what the encoder writes, the encoder
writes what the decoder took, and a step runs what the decoder answers. -/

namespace Sys2Proof.EncodingRules

open Sys2Proof.Machine Sys2Proof.MemoryRules

variable {i j : Instr} {s : State} {so fo : Byte} {rest p : List Byte}

/-! ### The offset checks (30_encoding.md R125, 20_memory.md R73, R82) -/

theorem checkSaddr_eq_ok : checkSaddr so i = .ok j ↔ saddrOk so = true ∧ i = j := by
  unfold checkSaddr
  split_ifs <;> simp_all

theorem checkSaddrp_eq_ok : checkSaddrp so i = .ok j ↔ saddrpOk so = true ∧ i = j := by
  unfold checkSaddrp
  split_ifs <;> simp_all

theorem checkSfr_eq_ok : checkSfr fo i = .ok j ↔ sfrOk fo = true ∧ i = j := by
  unfold checkSfr
  split_ifs <;> simp_all

/-- The PSW offset 1EH passes no Saddr-offset check. -/
theorem ne_pswOffset_of_saddrOk (h : saddrOk so = true) : so ≠ 0x1E#8 := by
  rintro rfl
  cases h

/-- The SP offset 1CH passes no check of a 16-bit operand's offset. -/
theorem ne_spOffset_of_saddrpOk (h : saddrpOk so = true) : so ≠ 0x1C#8 := by
  rintro rfl
  cases h

/-! ### Decoding what the encoder writes

Where the first byte is fixed the decoder computes; each lemma here takes the equation it computes
to and closes the check or the operand that stands in it. -/

theorem decode_encode_saddr (hwf : saddrOk so = true)
    (hd : decode (encode i ++ rest) = (checkSaddr so i).map (·, rest) := by exact rfl) :
    decode (encode i ++ rest) = .ok (i, rest) := by
  rw [hd, checkSaddr_eq_ok.2 ⟨hwf, rfl⟩]
  rfl

/-- The codes that are a PSW form at offset 1EH. -/
theorem decode_encode_saddr_or_psw (hwf : saddrOk so = true)
    (hd : decode (encode i ++ rest) =
        (if so = 0x1E#8 then .ok j else checkSaddr so i).map (·, rest) := by exact rfl) :
    decode (encode i ++ rest) = .ok (i, rest) :=
  decode_encode_saddr hwf (by rw [hd, if_neg (ne_pswOffset_of_saddrOk hwf)])

/-- The codes that are an SP form at offset 1CH. -/
theorem decode_encode_saddrp_or_sp (hwf : saddrpOk so = true)
    (hd : decode (encode i ++ rest) =
        (if so = 0x1C#8 then .ok j else checkSaddrp so i).map (·, rest) := by exact rfl) :
    decode (encode i ++ rest) = .ok (i, rest) := by
  rw [hd, if_neg (ne_spOffset_of_saddrpOk hwf), checkSaddrp_eq_ok.2 ⟨hwf, rfl⟩]
  rfl

theorem decode_encode_sfr (hwf : sfrOk fo = true)
    (hd : decode (encode i ++ rest) = (checkSfr fo i).map (·, rest) := by exact rfl) :
    decode (encode i ++ rest) = .ok (i, rest) := by
  rw [hd, checkSfr_eq_ok.2 ⟨hwf, rfl⟩]
  rfl

/-- A 16-bit operand, low byte first (30_encoding.md R117). -/
theorem decode_encode_word (mk : Word → Instr) (w : Word)
    (hd : decode (encode (mk w) ++ rest) = .ok (mk (join (hiByte w) (loByte w)), rest)) :
    decode (encode (mk w) ++ rest) = .ok (mk w, rest) := by
  rw [hd, join_hiByte_loByte]

theorem decode_bit_a (t : Bool) (b : BitVec 3) (rest : List Byte) :
    decode (0x0A#8 :: bitByte t b 0x2 :: rest) = .ok (if t then .clr1A b else .set1A b, rest) := by
  obtain ⟨hlow, hdec⟩ := decodeSecond_bitByte t b (low := 0x2) (by decide) (by decide) rest
  refine hdec.trans ?_
  simp only [decodeBitForm, hlow]
  rfl

theorem decode_bit_hl (t : Bool) (b : BitVec 3) (rest : List Byte) :
    decode (0x0A#8 :: bitByte t b 0xE :: rest) =
      .ok (if t then .clr1Hl b else .set1Hl b, rest) := by
  obtain ⟨hlow, hdec⟩ := decodeSecond_bitByte t b (low := 0xE) (by decide) (by decide) rest
  refine hdec.trans ?_
  simp only [decodeBitForm, hlow]
  rfl

theorem decode_branch_a (t : Bool) (b : BitVec 3) (jd : Byte) (rest : List Byte) :
    decode (0x0A#8 :: bitByte t b 0x0 :: jd :: rest) =
      .ok (if t then .btA b jd else .bfA b jd, rest) := by
  obtain ⟨hlow, hdec⟩ :=
    decodeSecond_bitByte t b (low := 0x0) (by decide) (by decide) (jd :: rest)
  refine hdec.trans ?_
  simp only [decodeBitForm, hlow]
  rfl

/-- `SET1 PSW.bit` is not the code of `EI` (30_encoding.md R125). -/
theorem decodeSet1Saddr_psw {b : BitVec 3} (hb : b ≠ 7#3) :
    decodeSet1Saddr b 0x1E#8 = .ok (.set1Psw b) := by
  simp [decodeSet1Saddr, hb]

/-- `CLR1 PSW.bit` is not the code of `DI` (30_encoding.md R125). -/
theorem decodeClr1Saddr_psw {b : BitVec 3} (hb : b ≠ 7#3) :
    decodeClr1Saddr b 0x1E#8 = .ok (.clr1Psw b) := by
  simp [decodeClr1Saddr, hb]

/-- The first byte `0 1 ta4..ta0 0` of `CALLT` (30_encoding.md R113). -/
def calltByte (t : BitVec 5) : Byte := 0x40#8 ||| (t.zeroExtend 8 <<< 1)

theorem calltByte_fields : ∀ t : BitVec 5, calltByte t ≠ 0x0A#8 ∧
    calltByte t &&& 0xC1#8 = 0x40#8 ∧ (calltByte t).extractLsb' 1 5 = t := by
  decide

theorem decode_callt (t : BitVec 5) (rest : List Byte) :
    decode (calltByte t :: rest) = .ok (.callt t, rest) := by
  obtain ⟨hprefix, hmask, hindex⟩ := calltByte_fields t
  simp only [decode, hprefix, hmask, hindex]
  rfl

/-- Settles O1, by how the code of each form holds its operands. -/
theorem decodeEncode : Obligations.DecodeEncode := by
  intro i rest hwf
  cases i with
  | xchASaddr | addASaddr | addcASaddr | subASaddr | subcASaddr | andASaddr | orASaddr | xorASaddr
  | cmpASaddr | addSaddrByte | addcSaddrByte | subSaddrByte | subcSaddrByte | andSaddrByte
  | orSaddrByte | xorSaddrByte | cmpSaddrByte | incSaddr | decSaddr | dbnzSaddr =>
    exact decode_encode_saddr hwf
  | movSaddrByte | movASaddr | movSaddrA => exact decode_encode_saddr_or_psw hwf
  | movwAxSaddrp | movwSaddrpAx => exact decode_encode_saddrp_or_sp hwf
  | movSfrByte | movASfr | movSfrA | xchASfr => exact decode_encode_sfr hwf
  | movAAddr16 | movAddr16A | addAAddr16 | addcAAddr16 | subAAddr16 | subcAAddr16 | andAAddr16
  | orAAddr16 | xorAAddr16 | cmpAAddr16 | addwAxWord | subwAxWord | cmpwAxWord | callAddr16
  | brAddr16 => exact decode_encode_word _ _ rfl
  | movwRpWord rp => cases rp <;> exact decode_encode_word _ _ rfl
  | incwRp rp | decwRp rp | pushRp rp | popRp rp => cases rp <;> rfl
  | movwAxRp rp | movwRpAx rp | xchwAxRp rp =>
    cases rp with
    | ax => cases hwf
    | _ => rfl
  | movRByte r | addAR r | addcAR r | subAR r | subcAR r | andAR r | orAR r | xorAR r | cmpAR r
  | incR r | decR r => cases r <;> rfl
  | movAR r | movRA r =>
    cases r with
    | a => cases hwf
    | _ => rfl
  | xchAR r =>
    cases r with
    | a | x => cases hwf
    | _ => rfl
  | set1A b => exact decode_bit_a false b rest
  | clr1A b => exact decode_bit_a true b rest
  | set1Hl b => exact decode_bit_hl false b rest
  | clr1Hl b => exact decode_bit_hl true b rest
  | btA b jd => exact decode_branch_a true b jd rest
  | bfA b jd => exact decode_branch_a false b jd rest
  | set1Saddr b so => exact decode_encode_saddr_or_psw hwf (decode_bit_saddr false b so rest)
  | clr1Saddr b so => exact decode_encode_saddr_or_psw hwf (decode_bit_saddr true b so rest)
  | btSaddr b so jd => exact decode_encode_saddr_or_psw hwf (decode_branch_saddr true b so jd rest)
  | bfSaddr b so jd => exact decode_encode_saddr_or_psw hwf (decode_branch_saddr false b so jd rest)
  | set1Sfr b fo => exact decode_encode_sfr hwf (decode_bit_sfr false b fo rest)
  | clr1Sfr b fo => exact decode_encode_sfr hwf (decode_bit_sfr true b fo rest)
  | btSfr b fo jd => exact decode_encode_sfr hwf (decode_branch_sfr true b fo jd rest)
  | bfSfr b fo jd => exact decode_encode_sfr hwf (decode_branch_sfr false b fo jd rest)
  | set1Psw b =>
    refine (decode_bit_saddr false b 0x1E#8 rest).trans ?_
    simp [decodeSet1Saddr_psw (bne_iff_ne.1 hwf), Except.map]
  | clr1Psw b =>
    refine (decode_bit_saddr true b 0x1E#8 rest).trans ?_
    simp [decodeClr1Saddr_psw (bne_iff_ne.1 hwf), Except.map]
  | btPsw b jd => exact decode_branch_saddr true b 0x1E#8 jd rest
  | bfPsw b jd => exact decode_branch_saddr false b 0x1E#8 jd rest
  | callt t => exact decode_callt t rest
  | _ => rfl

/-! ### Encoding what the decoder took

`Reads` is the claim about one arm of the decoder; the rules for `form0`, `form1`, `form2` and the
offset checks leave of each arm that its instruction's encoding is the bytes taken. -/

/-- Every instruction that the answer gives is well formed, and `p` is its encoding. -/
def Encoded (p : List Byte) (x : Except DecodeError Instr) : Prop :=
  ∀ i, x = .ok i → i.wf = true ∧ p = encode i

/-- Every instruction that the answer gives is well formed, and the bytes that it took from
`p ++ rest` are its encoding. -/
def Reads (p rest : List Byte) (d : Decoded) : Prop :=
  ∀ i rest', d = .ok (i, rest') → i.wf = true ∧ p ++ rest = encode i ++ rest'

@[simp] theorem encoded_ok : Encoded p (.ok i) ↔ i.wf = true ∧ p = encode i :=
  ⟨fun h => h i rfl, fun h j hj => by cases hj; exact h⟩

@[simp] theorem encoded_ite {c : Prop} [Decidable c] {x y : Except DecodeError Instr} :
    Encoded p (if c then x else y) ↔ (c → Encoded p x) ∧ (¬c → Encoded p y) := by
  split <;> simp [*]

@[simp] theorem encoded_checkSaddr :
    Encoded p (checkSaddr so i) ↔ (saddrOk so = true → i.wf = true ∧ p = encode i) := by
  simp [Encoded, checkSaddr_eq_ok]

@[simp] theorem encoded_checkSaddrp :
    Encoded p (checkSaddrp so i) ↔ (saddrpOk so = true → i.wf = true ∧ p = encode i) := by
  simp [Encoded, checkSaddrp_eq_ok]

@[simp] theorem encoded_checkSfr :
    Encoded p (checkSfr fo i) ↔ (sfrOk fo = true → i.wf = true ∧ p = encode i) := by
  simp [Encoded, checkSfr_eq_ok]

theorem reads_error (e : DecodeError) : Reads p rest (.error e) := nofun

theorem reads_map {x : Except DecodeError Instr} (h : Encoded p x) :
    Reads p rest (x.map (·, rest)) := by
  cases x with
  | error e => exact reads_error e
  | ok i =>
    rintro j rest' hj
    cases hj
    obtain ⟨hwf, rfl⟩ := h i rfl
    exact ⟨hwf, rfl⟩

@[simp] theorem reads_form0 (h : Encoded p (.ok i)) : Reads p rest (form0 i rest) := reads_map h

@[simp] theorem reads_form1 {k : Byte → Except DecodeError Instr}
    (h : ∀ b, Encoded (p ++ [b]) (k b)) : Reads p rest (form1 k rest) := by
  cases rest with
  | nil => exact reads_error _
  | cons b rest =>
    rw [Reads, List.append_cons]
    exact reads_map (h b)

@[simp] theorem reads_form2 {k : Byte → Byte → Except DecodeError Instr}
    (h : ∀ b c, Encoded (p ++ [b, c]) (k b c)) : Reads p rest (form2 k rest) := by
  match rest with
  | [] | [_] => exact reads_error _
  | b :: c :: rest =>
    rw [Reads, List.append_cons, List.append_cons, List.append_assoc p]
    exact reads_map (h b c)

@[simp] theorem reads_unlessReg {b2 : Byte} {excluded : Bool}
    (h : excluded = false → Encoded p (.ok i)) : Reads p rest (unlessReg b2 excluded i rest) := by
  cases excluded with
  | true => exact reads_error _
  | false => exact reads_form0 (h rfl)

theorem eq_ofNat_of_toNat {b : Byte} {n : Nat} (h : b.toNat = n) : b = BitVec.ofNat 8 n := by
  rw [← h, BitVec.ofNat_toNat, BitVec.setWidth_eq]

theorem reads_decodeFirst (b1 : Byte) (rest : List Byte) :
    Reads [b1] rest (decodeFirst b1 rest) := by
  unfold decodeFirst
  split
  on_goal -1 => exact reads_error _
  all_goals
    next hcode =>
      rw [eq_ofNat_of_toNat hcode]
      simp [Instr.wf, encode, pairByte, RegPair.code]

/-- The fields of a second byte `oooo R2 R1 R0 1` make it up (30_encoding.md R112). -/
theorem regByte_of_fields : ∀ b2 : Byte, b2.toNat % 2 = 1 →
    regByte (b2.toNat / 16) (Reg.ofCode (b2.toNat / 2 % 8)) = b2 := by
  decide

theorem reads_decodeRegForm {b2 : Byte} {r : Reg} (hb : regByte (b2.toNat / 16) r = b2)
    (rest : List Byte) : Reads [0x0A#8, b2] rest (decodeRegForm b2 r rest) := by
  unfold decodeRegForm
  split
  on_goal -1 => exact reads_error _
  all_goals
    next hop =>
      rw [hop] at hb
      simp +contextual [Instr.wf, encode, hb]

/-- The fields of a second byte `t B2 B1 B0 ssss` make it up (30_encoding.md R112). -/
theorem bitByte_of_fields : ∀ b2 : Byte,
    bitByte (decide (128 ≤ b2.toNat)) (BitVec.ofNat 3 (b2.toNat / 16)) (b2.toNat % 16) = b2 := by
  decide

/-- Bit 7 of PSW is the code of `EI` (30_encoding.md R125). -/
@[simp] theorem encoded_decodeSet1Saddr (b : BitVec 3) (so : Byte) :
    Encoded [0x0A#8, bitByte false b 0xA, so] (decodeSet1Saddr b so) := by
  unfold decodeSet1Saddr
  split_ifs with hpsw hei
  · subst hpsw hei
    exact encoded_ok.2 ⟨rfl, rfl⟩
  · subst hpsw
    exact encoded_ok.2 ⟨bne_iff_ne.2 hei, rfl⟩
  · exact encoded_checkSaddr.2 fun hwf => ⟨hwf, rfl⟩

/-- Bit 7 of PSW is the code of `DI` (30_encoding.md R125). -/
@[simp] theorem encoded_decodeClr1Saddr (b : BitVec 3) (so : Byte) :
    Encoded [0x0A#8, bitByte true b 0xA, so] (decodeClr1Saddr b so) := by
  unfold decodeClr1Saddr
  split_ifs with hpsw hdi
  · subst hpsw hdi
    exact encoded_ok.2 ⟨rfl, rfl⟩
  · subst hpsw
    exact encoded_ok.2 ⟨bne_iff_ne.2 hdi, rfl⟩
  · exact encoded_checkSaddr.2 fun hwf => ⟨hwf, rfl⟩

@[simp] theorem encoded_decodeBtSaddr (b : BitVec 3) (so jd : Byte) :
    Encoded [0x0A#8, bitByte true b 0x8, so, jd] (decodeBtSaddr b so jd) := by
  unfold decodeBtSaddr
  split_ifs with hpsw
  · subst hpsw
    exact encoded_ok.2 ⟨rfl, rfl⟩
  · exact encoded_checkSaddr.2 fun hwf => ⟨hwf, rfl⟩

@[simp] theorem encoded_decodeBfSaddr (b : BitVec 3) (so jd : Byte) :
    Encoded [0x0A#8, bitByte false b 0x8, so, jd] (decodeBfSaddr b so jd) := by
  unfold decodeBfSaddr
  split_ifs with hpsw
  · subst hpsw
    exact encoded_ok.2 ⟨rfl, rfl⟩
  · exact encoded_checkSaddr.2 fun hwf => ⟨hwf, rfl⟩

theorem reads_decodeBitForm {b2 : Byte} {t : Bool} {b : BitVec 3}
    (hb : bitByte t b (b2.toNat % 16) = b2) (rest : List Byte) :
    Reads [0x0A#8, b2] rest (decodeBitForm b2 t b rest) := by
  unfold decodeBitForm
  split
  on_goal -1 => exact reads_error _
  all_goals
    next hlow =>
      rw [hlow] at hb
      subst hb
      cases t <;> simp +contextual [Instr.wf, encode]

theorem reads_decodeSecond (b2 : Byte) (rest : List Byte) :
    Reads [0x0A#8, b2] rest (decodeSecond b2 rest) := by
  unfold decodeSecond
  split
  next hodd => exact reads_decodeRegForm (regByte_of_fields b2 hodd) rest
  next => exact reads_decodeBitForm (bitByte_of_fields b2) rest

/-- The `CALLT` index makes up the first byte (30_encoding.md R113). -/
theorem calltByte_of_fields : ∀ b1 : Byte, b1 &&& 0xC1#8 = 0x40#8 →
    calltByte (b1.extractLsb' 1 5) = b1 := by
  decide

theorem reads_decode (bytes : List Byte) : Reads [] bytes (decode bytes) := by
  unfold decode
  split
  next => exact reads_error _
  next b1 rest =>
    split_ifs with h0A hcallt
    · subst h0A
      cases rest with
      | nil => exact reads_error _
      | cons b2 rest => exact reads_decodeSecond b2 rest
    · have hcode : [b1] = encode (.callt (b1.extractLsb' 1 5)) :=
        congrArg (fun b => [b]) (calltByte_of_fields b1 hcallt).symm
      exact reads_form0 (p := [b1]) (encoded_ok.2 ⟨rfl, hcode⟩)
    · exact reads_decodeFirst b1 rest

/-- Settles O2: what every arm of the decoder reads is an encoding. -/
theorem encodeDecode : Obligations.EncodeDecode := reads_decode

/-- Settles O3. -/
theorem decodingSampleWords : Obligations.DecodingSampleWords :=
  ⟨rfl, rfl, rfl, rfl, rfl, rfl, rfl, rfl, rfl, rfl, rfl, rfl, rfl, rfl, rfl, rfl⟩

/-! ### A step runs what it fetches (30_encoding.md R126, 60_exceptions.md R364) -/

theorem fetchInstr_of_fetchedAt (hwf : i.wf = true) (hf : FetchedAt s s.pc (encode i)) :
    fetchInstr s = .ok i := by
  obtain ⟨rest, stop, hfetch⟩ := fetchBytes_of_fetchedAt (encode_length_le i) hf
  simp [fetchInstr, hfetch, decodeEncode i rest hwf]

theorem executeNext_of_fetchInstr (h : fetchInstr s = .ok i) : executeNext s = exec i s := by
  simp [executeNext, h]

/-- Settles O53, from O1: the four bytes fetched begin with the encoding. -/
theorem stepRunsDecoded : Obligations.StepRunsDecoded := fun s i hwf hm hin hf =>
  calc step s
    _ = executeNext s := step_of_quiet hm hin
    _ = exec i s := executeNext_of_fetchInstr (fetchInstr_of_fetchedAt hwf hf)

end Sys2Proof.EncodingRules

/-! The 8-bit data transfer family (40_data_transfer_8bit.md): `MOV` and `XCH` between registers, and
between A or a literal byte and memory. -/

namespace Sys2Proof.TransferRules

open Sys2Proof.Machine Sys2Proof.Claims Sys2Proof.Scope Sys2Proof.StateRules Sys2Proof.MemoryRules

variable {f : MemForm} {i : Instr} {n : Nat} {data v : Byte} {ea : Word} {s s1 s2 : State}

/-! ### Forms with a memory operand -/

/-- Each `MOV A, mem` form finds its address and loads the byte there. -/
theorem exec_loadInstr (s : State) (h : loadInstr f = some (i, n)) :
    exec i s = toOutcome (f.ea s >>= fun ea => loadA ea n s) := by
  cases f with
  | saddr so | sfr fo | addr16 addr | de | hl | hlb d => cases h; rfl
  | saddrp so => cases h

/-- Each `MOV mem, A` form finds its address and stores A there. -/
theorem exec_storeInstr (s : State) (h : storeInstr f = some (i, n)) :
    exec i s = toOutcome (f.ea s >>= fun ea => storeAt ea s.regs.a n s) := by
  cases f with
  | saddr so | sfr fo | addr16 addr | de | hl | hlb d => cases h; rfl
  | saddrp so => cases h

/-- Both `MOV mem, #byte` forms find their address and store the byte there. -/
theorem exec_storeByteInstr (s : State) (h : storeByteInstr data f = some i) :
    exec i s = toOutcome (f.ea s >>= fun ea => storeAt ea data 3 s) := by
  cases f with
  | saddr so | sfr fo => cases h; rfl
  | addr16 addr | de | hl | hlb d | saddrp so => cases h

/-- Each `XCH A, mem` form finds its address and exchanges with the byte there. -/
theorem exec_xchInstr (s : State) (h : xchInstr f = some (i, n)) :
    exec i s = toOutcome (f.ea s >>= fun ea => xchA ea n s) := by
  cases f with
  | saddr so | sfr fo | de | hl | hlb d => cases h; rfl
  | addr16 addr | saddrp so => cases h

/-- Settles O17: the read keeps the registers and the PC that the load then works on. -/
theorem loadA : Obligations.LoadA := by
  intro f i n s s1 ea v hi hea hread
  have acc := memRead_accessed hread
  refine ⟨?_, acc, memRead_mem hread⟩
  rw [exec_loadInstr s hi, ← acc.regs, ← acc.pc]
  exact toOutcome_eq_next.2 (res_bind_ok.2 ⟨_, hea, res_bind_ok.2 ⟨_, hread, rfl⟩⟩)

/-- A store completes where the byte may be written: the write, then PC and `hold`. -/
theorem storeAt_of_writable (v : Byte) (n : Nat) (hw : Writable .byte s.prod ea) :
    ∃ s1, memWrite .byte ea v s = .ok s1 ∧
      storeAt ea v n s = .ok { s1 with pc := s.pc + BitVec.ofNat 16 n, hold := false } ∧
      Accessed s s1 [ea] ∧ (isCell s.prod ea → memGet s1.mem ea.toNat = some v) := by
  obtain ⟨s1, hwrite⟩ := memWrite_of_writable v hw
  have acc := memWrite_accessed hwrite
  refine ⟨s1, hwrite, ?_, acc, memGet_memWrite_self hwrite⟩
  rw [← acc.pc]
  exact res_bind_ok.2 ⟨_, hwrite, rfl⟩

/-- Settles O18: both kinds of form are one store, of A or of the literal byte. -/
theorem storeByte : Obligations.StoreByte := by
  intro f s ea hea hw
  refine ⟨fun i n hi => ?_, fun i data hi => ?_⟩
  · obtain ⟨s1, hwrite, hstore, hframe⟩ := storeAt_of_writable s.regs.a n hw
    refine ⟨s1, hwrite, ?_, hframe⟩
    rw [exec_storeInstr s hi]
    exact toOutcome_eq_next.2 (res_bind_ok.2 ⟨_, hea, hstore⟩)
  · obtain ⟨s1, hwrite, hstore, hframe⟩ := storeAt_of_writable data 3 hw
    refine ⟨s1, hwrite, ?_, hframe⟩
    rw [exec_storeByteInstr s hi]
    exact toOutcome_eq_next.2 (res_bind_ok.2 ⟨_, hea, hstore⟩)

/-- Settles O19: the read keeps A, which the write then puts in its place. -/
theorem exchangeMemory : Obligations.ExchangeMemory := by
  intro f i n s s1 ea v hi hea hread hw
  obtain ⟨s2, hwrite, acc, hcell⟩ := exists_memWrite_of_memRead hread hw s.regs.a
  refine ⟨s2, hwrite, ?_, acc, hcell⟩
  have ha : s1.reg .a = s.regs.a := congrArg (·.a) (memRead_accessed hread).regs
  rw [← ha] at hwrite
  rw [exec_xchInstr s hi, ← acc.regs, ← acc.pc]
  exact toOutcome_eq_next.2 (res_bind_ok.2 ⟨_, hea, res_bind_ok.2 ⟨_, hread,
    res_bind_ok.2 ⟨_, hwrite, rfl⟩⟩⟩)

/-! ### Forms between registers (R140, R143, R144, R160, R161) -/

/-- The address after an instruction, short of the end of the space (10_state.md R24). -/
theorem advances_next (s : State) (n : Nat) : Advances s n (s.next n) := fun h => by
  rw [State.next, BitVec.toNat_add, BitVec.toNat_ofNat]
  omega

/-- An instruction that writes registers and then ends has no other effect. -/
theorem exists_advances {g : Regs} (h : exec i s = .next ({ s with regs := g }.done n)) :
    ∃ q, Advances s n q ∧ exec i s = .next { s with regs := g, pc := q, hold := false } :=
  ⟨s.next n, advances_next s n, h⟩

theorem encodes_movAR_and_movRA {r : Reg} (h : r ≠ .a) :
    Encodes (.movAR r) [0x0A, regCodeByte 0x2 r] ∧ Encodes (.movRA r) [0x0A, regCodeByte 0xE r] := by
  cases r with
  | a => exact absurd rfl h
  | x | c | b | e | d | l | h => exact ⟨fun _ => rfl, fun _ => rfl⟩

theorem encodes_xchAR {r : Reg} (ha : r ≠ .a) (hx : r ≠ .x) :
    Encodes (.xchAR r) [0x0A, regCodeByte 0x0 r] := by
  intro rest
  cases r with
  | a => exact absurd rfl ha
  | x => exact absurd rfl hx
  | c | b | e | d | l | h => rfl

/-- The codes of `MOV A, r`, `MOV r, A` and `XCH A, r` that would name A, and X in `XCH`. -/
theorem decode_excluded_register {b : Byte} (h : b ∈ [0x23#8, 0xE3#8, 0x01#8, 0x03#8])
    (rest : List Byte) : decode (0x0A#8 :: b :: rest) = .error (.unassignedSecond b) := by
  simp only [List.mem_cons, List.not_mem_nil, or_false] at h
  obtain rfl | rfl | rfl | rfl := h <;> rfl

/-- `XCH A, r` with another register: each takes the other's contents, the six others stay. -/
theorem exchanged_registers (g : Regs) {r : Reg} (h : r ≠ .a) :
    let g' := (g.set .a (g.get r)).set r g.a
    g'.get r = g.a ∧ g'.a = g.get r ∧ ∀ q, q ≠ r → q ≠ .a → g'.get q = g.get q := by
  refine ⟨by simp, ?_, fun q hr ha => by simp [hr, ha]⟩
  show Regs.get _ .a = _
  simp [h.symm]

/-- Settles O15: every form is a register write, and PC past the instruction. -/
theorem registerMoves : Obligations.RegisterMoves := by
  intro s r data
  refine ⟨exists_advances rfl, fun ha => ?_, fun _ => rfl, exists_advances rfl, fun ha hx => ?_,
    fun _ hb => decode_excluded_register hb⟩
  · obtain ⟨hload, hstore⟩ := encodes_movAR_and_movRA ha
    exact ⟨hload, exists_advances rfl, hstore, exists_advances rfl⟩
  · exact ⟨encodes_xchAR ha hx, _, exists_advances rfl, exchanged_registers s.regs ha⟩

end Sys2Proof.TransferRules

/-! The bit manipulation family (45_bit_manipulation.md): `SET1`, `CLR1` and `NOT1` of A, of memory,
of PSW and of CY, and the branches on a bit of PSW, which R274 holds to the same four flag bits. -/

namespace Sys2Proof.BitRules

open Sys2Proof.Machine Sys2Proof.Claims Sys2Proof.StateRules Sys2Proof.EncodingRules
  Sys2Proof.TransferRules

variable {v : Bool} {b : BitVec 3} {f : MemForm} {i : Instr} {n : Nat} {s : State}

/-! ### One bit of a byte (R260, R265) -/

/-- The operation of `SET1` (`v` true) and of `CLR1` on a byte. -/
def writeBit (v : Bool) (b : BitVec 3) (w : Byte) : Byte := if v then setBit w b else clearBit w b

theorem bitMask_getLsbD (b : BitVec 3) (k : Nat) :
    (bitMask b).getLsbD k = decide (k = b.toNat) := by
  have hb := b.isLt
  rw [bitMask, BitVec.getLsbD_shiftLeft, BitVec.getLsbD_one, Bool.eq_iff_iff]
  simp only [Bool.and_eq_true, Bool.not_eq_true', decide_eq_true_iff, decide_eq_false_iff_not]
  omega

theorem bitSet_writeBit (v : Bool) (b : BitVec 3) (w : Byte) :
    BitSet w (writeBit v b w) b.toNat v := by
  intro k
  cases v with
  | true =>
    rw [writeBit, if_pos rfl, setBit, BitVec.getLsbD_or, bitMask_getLsbD]
    by_cases h : k = b.toNat <;> simp [h]
  | false =>
    rw [writeBit, if_neg (by decide), clearBit, BitVec.getLsbD_and, BitVec.getLsbD_not,
      bitMask_getLsbD]
    by_cases h : k = b.toNat
    · simp [h]
    · by_cases hk : k < 8
      · simp [h, hk]
      · simp [h, BitVec.getLsbD_of_ge w k (Nat.le_of_not_lt hk)]

/-! ### A bit of A (R262, R267) -/

theorem bitByte_two (t : Bool) (b : BitVec 3) :
    bitByte t b 0x2 = BitVec.ofNat 8 ((if t then 0x82 else 0x02) + 16 * b.toNat) := by
  rw [bitByte]
  cases t with
  | true => exact congrArg _ (Nat.add_right_comm 128 _ 2)
  | false => exact congrArg _ (Nat.add_right_comm 0 _ 2)

/-- Settles O29: both forms are a write of A, and PC past the instruction. -/
theorem bitsOfA : Obligations.BitsOfA := by
  intro s b
  obtain ⟨q, hq, hset⟩ := exists_advances (i := .set1A b) (s := s) rfl
  obtain ⟨q', hq', hclr⟩ := exists_advances (i := .clr1A b) (s := s) rfl
  refine ⟨fun rest => ?_, fun rest => ?_, ⟨_, q, bitSet_writeBit true b _, hq, hset⟩,
    ⟨_, q', bitSet_writeBit false b _, hq', hclr⟩⟩
  · exact bitByte_two false b ▸ decode_bit_a false b rest
  · exact bitByte_two true b ▸ decode_bit_a true b rest

/-! ### A bit of memory (R260, R261, R264 to R266, R269, R273) -/

/-- Each memory-bit form finds its address and changes the bit of the byte there. -/
theorem exec_memBitInstr (s : State) (h : memBitInstr v b f = some (i, n)) :
    exec i s = toOutcome (f.ea s >>= fun ea => modifyBitAt (writeBit v b) ea n s) := by
  cases f with
  | saddr so | sfr fo | hl => cases h; cases v <;> rfl
  | addr16 addr | de | hlb d | saddrp so => cases h

/-- Settles O30: one read, one write of the byte with the bit changed, and the end. -/
theorem bitsOfMemory : Obligations.BitsOfMemory := by
  intro v b f i n s s1 ea w hi hea hread hw
  obtain ⟨s2, hwrite, acc, hcell⟩ := exists_memWrite_of_memRead hread hw (writeBit v b w)
  refine ⟨_, s2, bitSet_writeBit v b w, hwrite, ?_, acc, hcell⟩
  rw [exec_memBitInstr s hi, ← acc.pc]
  exact toOutcome_eq_next.2 (res_bind_ok.2 ⟨_, hea, res_bind_ok.2 ⟨_, hread,
    res_bind_ok.2 ⟨_, hwrite, rfl⟩⟩⟩)

/-! ### A bit of PSW, and CY (R263, R268, R270 to R272, R274) -/

/-- The bits that name a flag (R274). -/
theorem exists_pswBitFlag (h : b.toNat ∈ [7, 6, 4, 0]) : ∃ g, pswBitFlag b = .ok g := by
  simp only [List.mem_cons, List.not_mem_nil, or_false] at h
  obtain h | h | h | h := h <;> simp [pswBitFlag, flagOfBit, pswZBit, pswAcBit, pswCyBit, h]

/-- The bits that name none (R274, D21). -/
theorem pswBitFlag_of_not_flag (h : b.toNat ∉ [7, 6, 4, 0]) :
    pswBitFlag b = refuse (.nonFlagBit b) := by
  simp only [List.mem_cons, List.not_mem_nil, or_false, not_or] at h
  obtain ⟨hie, hz, hac, hcy⟩ := h
  simp [pswBitFlag, flagOfBit, pswZBit, pswAcBit, pswCyBit, hie, hz, hac, hcy]

/-- A `PSW.bit` form that names no flag is refused, whatever it would do with one. -/
theorem exec_of_not_flag {k : Flag → Res State} (h : b.toNat ∉ [7, 6, 4, 0])
    (he : exec i s = toOutcome (pswBitFlag b >>= k) := by rfl) :
    exec i s = .refused (.nonFlagBit b) := by
  rw [he, pswBitFlag_of_not_flag h]
  rfl

/-- Settles O31: the flag a form names sits at its bit; a form that names none stops there. -/
theorem bitsOfPsw : Obligations.BitsOfPsw := by
  intro s b jd
  refine ⟨fun hb => ?_, fun hb => ?_, fun _ => rfl, fun _ => rfl, fun _ => rfl,
    ⟨_, pswSetFlag_getLsbD s.psw .cy _, rfl⟩, ⟨_, pswSetFlag_getLsbD s.psw .cy _, rfl⟩,
    ⟨_, pswSetFlag_getLsbD s.psw .cy _, rfl⟩⟩
  · obtain ⟨g, hg⟩ := exists_pswBitFlag hb
    have hhold : decide (b = 7#3) = decide (b.toNat = 7) := decide_eq_decide.2 BitVec.toNat_inj.symm
    have hset : exec (.set1Psw b) s = .next ((s.setFlag g true).done 3) :=
      toOutcome_eq_next.2 (res_bind_ok.2 ⟨g, hg, rfl⟩)
    have hclr : exec (.clr1Psw b) s =
        .next ((s.setFlag g false).goTo (s.next 3) (decide (b = 7#3))) :=
      toOutcome_eq_next.2 (res_bind_ok.2 ⟨g, hg, rfl⟩)
    have hbt : exec (.btPsw b jd) s = .next (s.branchIf (s.flag g == true) 4 jd) :=
      toOutcome_eq_next.2 (res_bind_ok.2 ⟨g, hg, rfl⟩)
    have hbf : exec (.bfPsw b jd) s = .next (s.branchIf (s.flag g == false) 4 jd) :=
      toOutcome_eq_next.2 (res_bind_ok.2 ⟨g, hg, rfl⟩)
    rw [hhold] at hclr
    rw [beq_true, branchIf_eq] at hbt
    rw [beq_false, branchIf_eq] at hbf
    rw [← pswBitFlag_ok hg] at hclr ⊢
    exact ⟨⟨_, pswSetFlag_getLsbD s.psw g _, hset⟩, ⟨_, pswSetFlag_getLsbD s.psw g _, hclr⟩,
      hbt, hbf⟩
  · exact ⟨exec_of_not_flag hb, exec_of_not_flag hb, exec_of_not_flag hb, exec_of_not_flag hb⟩

end Sys2Proof.BitRules

/-! The call and return family (46_call_return.md): the frame that a call leaves and `RET` takes. -/

namespace Sys2Proof.CallRules

open Sys2Proof.Machine Sys2Proof.Claims Sys2Proof.StateRules

variable {w : Word} {s t : State}

/-- A 16-bit push moves SP down by two and keeps the registers and PSW. -/
theorem push16_frame (h : push16 w s = .ok t) :
    t.sp = s.sp - 2#16 ∧ t.regs = s.regs ∧ t.psw = s.psw := by
  obtain ⟨s1, hhi, hlo⟩ := push16_ok h
  have acc1 := push8_accessed hhi
  have acc2 := push8_accessed hlo
  have hsp1 : s1.sp = s.sp - 1#16 := acc1.sp
  have hsp : t.sp = s1.sp - 1#16 := acc2.sp
  exact ⟨by bv_omega, acc2.regs.trans acc1.regs, acc2.psw.trans acc1.psw⟩

theorem onStack_of_push16 (h : push16 w s = .ok t) : OnStack t [loByte w, hiByte w] := by
  obtain ⟨s1, hhi, hlo⟩ := push16_ok h
  have hframe : OnStack s1 [hiByte w] := onStack_of_push8 hhi nofun (by simp)
  exact onStack_of_push8 hlo hframe (by simp)

/-- `RET` takes back a pushed address, wherever the push was followed by a jump. -/
theorem exec_ret_of_push16 (h : push16 w s = .ok t) (target : Word) :
    ∃ u, exec .ret (t.goTo target false) = .next u ∧ u.pc = w ∧ u.sp = s.sp ∧
      u.regs = s.regs ∧ u.psw = s.psw := by
  obtain ⟨hsp, hregs, hpsw⟩ := push16_frame h
  have hpop := pop16_of_onStack (s := t.goTo target false) (onStack_of_push16 (t := t) h)
  rw [join_hiByte_loByte] at hpop
  have hback : t.sp + 2#16 = s.sp := by rw [hsp, BitVec.sub_add_cancel]
  exact ⟨_, toOutcome_eq_next.2 (res_bind_ok.2 ⟨_, hpop, rfl⟩), rfl, hback, hregs, hpsw⟩

theorem next_eq_ofNat (s : State) (n : Nat) : s.next n = BitVec.ofNat 16 (s.pc.toNat + n) := by
  rw [State.next, BitVec.ofNat_add, BitVec.ofNat_toNat, BitVec.setWidth_eq]

/-- Settles O50: both calls push the address after them, CALLT once it has read its table entry. -/
theorem callThenRet : Obligations.CallThenRet := by
  intro s t addr k
  simp only [← next_eq_ofNat]
  refine ⟨fun h => ?_, fun h => ?_⟩
  · obtain ⟨s1, hpush, hend⟩ := res_bind_ok.1 (toOutcome_eq_next.1 h)
    cases hend
    exact exec_ret_of_push16 hpush addr
  · obtain ⟨⟨target, s1⟩, hread, h⟩ := res_bind_ok.1 (toOutcome_eq_next.1 h)
    obtain ⟨s2, hpush, hend⟩ := res_bind_ok.1 h
    cases hend
    have acc := memRead2_accessed hread
    have hnext : s1.next 1 = s.next 1 := congrArg (· + 1#16) acc.pc
    rw [← acc.sp, ← acc.regs, ← acc.psw, ← hnext]
    exact exec_ret_of_push16 hpush target

end Sys2Proof.CallRules

/-! The stack family (47_stack.md): what `PUSH rp` leaves, and that `POP rp` takes it back. -/

namespace Sys2Proof.StackRules

open Sys2Proof.Machine Sys2Proof.Claims Sys2Proof.StateRules Sys2Proof.CallRules

variable {w : Word} {s t : State}

/-- A 16-bit push writes the two bytes below SP only. -/
theorem push16_mem (h : push16 w s = .ok t) {a : Word} (h1 : a ≠ s.sp - 1#16)
    (h2 : a ≠ s.sp - 2#16) : memGet t.mem a.toNat = memGet s.mem a.toNat := by
  obtain ⟨s1, hhi, hlo⟩ := push16_ok h
  have acc1 := push8_accessed hhi
  have hsp : s1.sp - 1#16 = s.sp - 2#16 := by
    rw [acc1.sp, State.setSp_sp]
    bv_omega
  calc memGet t.mem a.toNat
    _ = memGet s1.mem a.toNat := (push8_accessed hlo).mem a (by simpa [hsp] using h2)
    _ = memGet s.mem a.toNat := acc1.mem a (by simpa using h1)

theorem onStack_pair_of_push16 {rp : RegPair} (h : push16 (s.pair rp) s = .ok t) :
    OnStack t [s.regs.get (pairLow rp), s.regs.get (pairHigh rp)] := by
  have := onStack_of_push16 h
  rwa [State.pair, hiByte_join, loByte_join] at this

theorem set_get_self (g : Regs) (r : Reg) : g.set r (g.get r) = g := by
  cases r <;> rfl

/-- Settles O49: each byte goes back from the stack to the register it came from. -/
theorem pushThenPop : Obligations.PushThenPop := by
  intro s t rp h
  obtain ⟨s1, hpush, hend⟩ := res_bind_ok.1 (toOutcome_eq_next.1 h)
  cases hend
  obtain ⟨hsp, hregs, hpsw⟩ := push16_frame hpush
  obtain ⟨-, -, -, hpop⟩ := pushPop (s1.done 1) rp (s.regs.get (pairLow rp))
    (s.regs.get (pairHigh rp))
  refine ⟨_, hpop (onStack_pair_of_push16 (t := s1) hpush), ?_, ?_, hpsw, fun a => push16_mem hpush⟩
  · show (s1.regs.set _ _).set _ _ = s.regs
    rw [hregs, set_get_self, set_get_self]
  · show s1.sp + 2#16 = s.sp
    rw [hsp, BitVec.sub_add_cancel]

end Sys2Proof.StackRules

/-! The branch family (48_branch.md): `BT` and `BF` on a bit of memory. -/

namespace Sys2Proof.BranchRules

open Sys2Proof.Machine Sys2Proof.Claims Sys2Proof.StateRules

variable {want : Bool} {b : BitVec 3} {jd v : Byte} {f : MemForm} {i : Instr} {ea : Word}
  {s s1 : State}

/-- Each memory-bit branch finds its address and tests the bit of the byte there. -/
theorem exec_memBranchInstr (s : State) (h : memBranchInstr want b jd f = some i) :
    exec i s = toOutcome (f.ea s >>= fun ea => branchOnBitAt want ea b 4 jd s) := by
  cases f with
  | saddr so | sfr fo => cases h; cases want <;> rfl
  | addr16 addr | de | hl | hlb d | saddrp so => cases h

/-- A branch on a memory bit is taken from the state its one read leaves. -/
theorem branchOnBitAt_of_memRead (want : Bool) (b : BitVec 3) (n : Nat) (jd : Byte)
    (hread : memRead .bit ea s = .ok (v, s1)) :
    branchOnBitAt want ea b n jd s = .ok { s1 with
      pc := branchPc (v.getLsbD b.toNat == want) s.pc n jd, hold := false } := by
  rw [← (memRead_accessed hread).pc, ← branchIf_eq]
  exact res_bind_ok.2 ⟨_, hread, rfl⟩

/-- Settles O38: one read, which keeps the PC the branch starts from, and the branch. -/
theorem memoryBitBranches : Obligations.MemoryBitBranches := by
  intro want b jd f i s s1 ea v hi hea hread
  refine ⟨?_, memRead_accessed hread, memRead_mem hread⟩
  rw [exec_memBranchInstr s hi]
  exact toOutcome_eq_next.2
    (res_bind_ok.2 ⟨_, hea, branchOnBitAt_of_memRead want b 4 jd hread⟩)

end Sys2Proof.BranchRules

/-! The exceptions family (60_exceptions.md): the order of the branches of one step. -/

namespace Sys2Proof.ExceptionRules

open Sys2Proof.Machine Sys2Proof.StateRules Sys2Proof.MemoryRules Sys2Proof.EncodingRules

/-- Settles O52: RESET is looked at before the script's other changes are made; without it the step
is a cycle from the state with those changes, which acknowledges or, with nothing to acknowledge,
executes. -/
theorem machineStep : Obligations.MachineStep := by
  intro s s0 inp rest hin hs0
  refine ⟨step_of_reset hin, fun hr hm => ?_⟩
  have hm0 : s0.mode = .run := hs0 ▸ hm
  have hcycle : step s = cycle inp s0 := hs0 ▸ step_of_inputs hin hr
  refine ⟨fun v nmi ha => hcycle.trans (cycle_of_acknowledge hm0 ha), fun ha => ?_⟩
  have hexecute : step s = executeNext s0 := hcycle.trans (cycle_of_execute hm0 ha)
  exact ⟨fun i hi => hexecute.trans (executeNext_of_fetchInstr hi),
    fun e he => hexecute.trans (executeNext_of_error he)⟩

end Sys2Proof.ExceptionRules
